-- ==== Sys2Proof/Word.lean ====
section
/-! DEFINITION. The word types of the block (spec/00_scope.md R8, R9): every value is an unsigned
integer of a stated width, bit 0 the least significant. -/

namespace Sys2Proof

/-- A `u8`: a frame field, a payload byte, a checksum (R7 `BYTE_W`, R8). -/
abbrev Byte := BitVec 8

/-- A `u9`: a buffer address or the inbound byte counter (R7 `RXCNT_W`, R50). -/
abbrev BufAddr := BitVec 9

/-- A `u16`: the wide operand of an operation word, the packer's id (R7 `ID_W`, R80). -/
abbrev Half := BitVec 16

/-- An operation word `OPW[27:0]` (R7 `OPW_W`, R80). -/
abbrev OpWord := BitVec 28

end Sys2Proof
end

