-- ==== Sys2Proof/Config.lean ====
section
/-! DEFINITION. The parameters of the block: the table of spec/00_scope.md R7. A parameter that R7
marks OPEN has no value here: `DEV_ADDR` is an operand of every catalog command (log 10), and the
two time quantities are opaque (log 15). -/

namespace Sys2Proof

/-- What the low byte of the packer's odd-parity pattern is (R7 `PACK_ODDLOW`, R154, R157). -/
inductive OddLow where
  /-- byte 3 of the packer's output, the spec's value (decision D16) -/
  | byte3
  /-- `id[7:0]`, the variant of spec/93_implementation_defined.md G1, not the spec's value -/
  | idLow
deriving DecidableEq, Repr

/-- The two literals of the packer that R157 asks a model to carry in its configuration. -/
structure PackConfig where
  /-- which bit of id goes to bit 0 of byte 2 (R7 `PACK_IDBIT`) -/
  idBit : Nat
  /-- the low byte of the odd-parity pattern (R7 `PACK_ODDLOW`) -/
  oddLow : OddLow
deriving DecidableEq, Repr

/-- `TX_SYNC0`, first byte of an outbound frame (R7). -/
def Config.txSync0 : Byte := 0xAB
/-- `TX_SYNC1`, second byte of an outbound frame (R7). -/
def Config.txSync1 : Byte := 0xBA
/-- `RX_SYNC0`, first byte of an inbound frame (R7). -/
def Config.rxSync0 : Byte := 0xCD
/-- `RX_SYNC1`, second byte of an inbound frame (R7). -/
def Config.rxSync1 : Byte := 0xDC
/-- `ST_OK`, the status byte of success (R7, R72). -/
def Config.stOk : Byte := 0x81
/-- `ST_FAIL`, the status byte of failure (R7, R72). -/
def Config.stFail : Byte := 0x80
/-- `LEN_MAX`, the largest payload length (R7). -/
def Config.lenMax : Nat := 255
/-- `RX_MIN`: a shorter inbound buffer is malformed (R7, spec/90_conflicts.md C5). -/
def Config.rxMin : Nat := 4
/-- `RX_CK_FIRST`, index of the first inbound byte the checksum covers (R7, C2). -/
def Config.rxCkFirst : Nat := 3
/-- `RX_PAY_FIRST`, index of the first inbound payload byte (R7). -/
def Config.rxPayFirst : Nat := 5
/-- `TX_CK_FIRST`, index of the first outbound byte the checksum covers (R7). -/
def Config.txCkFirst : Nat := 2
/-- `FRAME_FIXED`, count of the bytes of a frame that are not payload (R7, C1). -/
def Config.frameFixed : Nat := 6
/-- `FRAME_MAX`, the largest well-formed frame (R7). -/
def Config.frameMax : Nat := 261
/-- `RXBUF_DEPTH`, bytes of an inbound buffer the block retains (R7, D5). -/
def Config.rxbufDepth : Nat := 261
/-- `PACK_LEN`, bytes the packer produces (R7). -/
def Config.packLen : Nat := 5
/-- `PACK_KEY`, byte 0 of the packer's output (R7). -/
def Config.packKey : Byte := 0x20
/-- `PACK_START`, the constant XORed into byte 1 of the packer's output (R7). -/
def Config.packStart : Byte := 0x04
/-- `PACK_IDBIT = 13` and `PACK_ODDLOW = byte 3`, the source's literals (R7, R157, C6). -/
def Config.pack : PackConfig := { idBit := 13, oddLow := .byte3 }

/-- `SETTLE_DELAY`: OPEN, a time outside the block that no rule reads (R7, R225, D28, log 15). -/
opaque Config.settleDelay : Nat
/-- `READ_TIMEOUT`: OPEN, a time outside the block that no rule reads (R7, R205, D28, log 15). -/
opaque Config.readTimeout : Nat

/-- Length of a password of the catalog (spec/45_command_catalog.md R173, R174, R175, R178). -/
def Config.passwordLen : Nat := 6
/-- The two groups Read All Blocks accepts (R178). -/
def Config.readAllGroups : List Byte := [0x0A, 0x0B]

end Sys2Proof
end

