-- ==== Sys2Proof/Machine/Frames.lean ====
section
/-! DEFINITION. The source's functions on byte sequences: the checksum (R100), the outbound frame
(R110) and the outcome of an inbound buffer (R125). The packer's function is in Machine/Cnp.lean.
The operations of the block do not call `frameDecode`; statements compare them with it (R132). -/

namespace Sys2Proof.Machine

/-- `xor8(s)`, the checksum of a byte sequence: 0x00 for the empty one, `xor8(s ++ [d]) = xor8(s) ^ d` (R100). -/
def xor8 (s : List Byte) : Byte := s.foldl (fun acc d => acc ^^^ d) 0x00

/-- `b[i .. j)`, the bytes of indices i up to and excluding j (R10). -/
def slice (b : List Byte) (i j : Nat) : List Byte := (b.take j).drop i

/-- The bytes of an outbound frame the checksum covers: address, command, length, payload (R74, R110). -/
def frameCovered (addr cmd : Byte) (p : List Byte) : List Byte :=
  [addr, cmd, BitVec.ofNat 8 p.length] ++ p

/-- `encode(addr, cmd, p)`, the outbound frame, for `p` of at most 255 bytes (R70, R110). -/
def frameEncode (addr cmd : Byte) (p : List Byte) : List Byte :=
  [Config.txSync0, Config.txSync1] ++ frameCovered addr cmd p ++ [xor8 (frameCovered addr cmd p)]

/-- The well-formed inbound frame with this address, status and payload (R71). -/
def inboundFrame (addr status : Byte) (p : List Byte) : List Byte :=
  [Config.rxSync0, Config.rxSync1, addr, status, BitVec.ofNat 8 p.length] ++ p
    ++ [xor8 ([status, BitVec.ofNat 8 p.length] ++ p)]

/-- The six outcomes of `decode` (R125, R190), with what they carry. -/
inductive DecodeOutcome where
  /-- success, with the payload slice -/
  | success (payload : List Byte)
  /-- "structurally impossible response" (R191) -/
  | malformedFrame
  /-- "integrity failure, response discarded" (R192) -/
  | checksumMismatch
  /-- "sync bytes absent" (R193) -/
  | invalidHeader
  /-- "device explicitly reported failure status", carrying the raw response (R194) -/
  | operationFailed (raw : List Byte)
  /-- "status byte not recognized" (R195) -/
  | unexpectedStatus
deriving DecidableEq, Repr

/-- `decode(b)`: the first outcome that applies, tested in the order size, checksum, header, status
(R125, R197). -/
def frameDecode (b : List Byte) : DecodeOutcome :=
  if b.length < Config.rxMin then .malformedFrame
  else if b.getD (b.length - 1) 0 ≠ xor8 (slice b Config.rxCkFirst (b.length - 1)) then .checksumMismatch
  else if b.getD 0 0 ≠ Config.rxSync0 ∨ b.getD 1 0 ≠ Config.rxSync1 then .invalidHeader
  else if b.getD 3 0 = Config.stOk then
    if Config.rxPayFirst + (b.getD 4 0).toNat > b.length then .malformedFrame
    else .success (slice b Config.rxPayFirst (Config.rxPayFirst + (b.getD 4 0).toNat))
  else if b.getD 3 0 = Config.stFail then .operationFailed b
  else .unexpectedStatus

end Sys2Proof.Machine
end

