-- ==== Sys2Proof/Syntax.lean ====
section
/-! DEFINITION. The operations and host-layer commands as syntax: one constructor per row of
spec/opcode_table.json, and the items by which they are presented. -/

namespace Sys2Proof

/-- One constructor per row of spec/opcode_table.json. Rows of format F0, FA, FB, FAB are the block's
operations (R84, R85); rows of format OUTFRAME are calls of the Command Catalog (R170 to R183); rows
of format INFRAME are inbound buffers with one of the two named status bytes (R72, R88). -/
inductive Instr where
  /-- `NOP` (R165) -/
  | nop
  /-- `RESET` (R166) -/
  | reset
  /-- `XCLR` (R102) -/
  | xclr
  /-- `XABS d` (R103) -/
  | xabs (d : Byte)
  /-- `TXBEGIN addr, cmd, n` (R111) -/
  | txbegin (addr cmd n : Byte)
  /-- `TXPAY d` (R112) -/
  | txpay (d : Byte)
  /-- `TXCLR` (R113) -/
  | txclr
  /-- `RXCLR` (R128) -/
  | rxclr
  /-- `RXB d` (R126) -/
  | rxb (d : Byte)
  /-- `RXEND` (R127) -/
  | rxend
  /-- `RXRD k`, k a 9-bit buffer address (R129) -/
  | rxrd (k : BufAddr)
  /-- `PAYRD i`, i an 8-bit payload index (R130) -/
  | payrd (i : Byte)
  /-- `PACK f, id` (R150) -/
  | pack (f : Byte) (id : Half)
  /-- reserved operation code 0xD (R85, R167) -/
  | reservedD
  /-- reserved operation code 0xE (R85, R167) -/
  | reservedE
  /-- reserved operation code 0xF (R85, R167) -/
  | reservedF
  /-- Write UID, command byte 0x11 (R172) -/
  | cmdWriteUid (addr : Byte) (uid : List Byte)
  /-- Read UID, command byte 0x12 (R171) -/
  | cmdReadUid (addr : Byte)
  /-- Read Sector, command byte 0x12 (R173) -/
  | cmdReadSector (addr sector block group : Byte) (password : List Byte)
  /-- Write Sector, command byte 0x14 (R174) -/
  | cmdWriteSector (addr sector block group : Byte) (password sectorData : List Byte)
  /-- Change Password, command byte 0x14 (R175) -/
  | cmdChangePassword (addr sector group : Byte) (oldPassword newPassword : List Byte)
  /-- Read ID, command byte 0x15 (R176) -/
  | cmdReadId (addr : Byte)
  /-- Write Chip ID, command byte 0x16 (R177) -/
  | cmdWriteChipId (addr : Byte) (id : List Byte)
  /-- Read All Blocks, command byte 0x17 (R178) -/
  | cmdReadAllBlocks (addr group : Byte) (password : List Byte)
  /-- Read Contactless UID, command byte 0x19 (R179) -/
  | cmdReadContactlessUid (addr : Byte)
  /-- Write Tag Sector, command byte 0x21; its payload is unknown, so the call carries raw bytes (R180) -/
  | cmdWriteTagSector (addr : Byte) (raw : List Byte)
  /-- the inbound buffer `CD DC addr 81 ++ rest` (R71, R72, R125) -/
  | statusOk (addr : Byte) (rest : List Byte)
  /-- the inbound buffer `CD DC addr 80 ++ rest` (R71, R72, R125) -/
  | statusFail (addr : Byte) (rest : List Byte)
deriving DecidableEq, Repr

/-- A call of the Command Catalog by its name and its arguments, as a caller invokes it (R170, R182; log
19): one constructor per command of R183. Every argument a caller can supply is expressible here, also one
that no frame shows, such as a password of the wrong length (R181). -/
inductive NamedCall where
  /-- Write UID (R172) -/
  | writeUid (addr : Byte) (uid : List Byte)
  /-- Read UID (R171) -/
  | readUid (addr : Byte)
  /-- Read Sector (R173) -/
  | readSector (addr sector block group : Byte) (password : List Byte)
  /-- Write Sector (R174) -/
  | writeSector (addr sector block group : Byte) (password sectorData : List Byte)
  /-- Change Password (R175) -/
  | changePassword (addr sector group : Byte) (oldPassword newPassword : List Byte)
  /-- Read ID (R176) -/
  | readId (addr : Byte)
  /-- Write Chip ID (R177) -/
  | writeChipId (addr : Byte) (id : List Byte)
  /-- Read All Blocks (R178) -/
  | readAllBlocks (addr group : Byte) (password : List Byte)
  /-- Read Contactless UID (R179) -/
  | readContactlessUid (addr : Byte)
  /-- Write Tag Sector; it has no payload shape, so whatever bytes the caller gives (R180) -/
  | writeTagSector (addr : Byte) (raw : List Byte)
deriving DecidableEq, Repr

/-- A transport-level I/O error: "a failed or timed-out write or read of the transport" (R198). `detail` is
the transport's own, opaque to the catalog, which passes it through unchanged (R186; log 21). -/
inductive TransportError where
  /-- a write of the transport failed or timed out -/
  | writeFailed (detail : Nat)
  /-- a read of the transport failed or timed out -/
  | readFailed (detail : Nat)
deriving DecidableEq, Repr

/-- One thing presented to the machine (R16, R80, R88; log 1). -/
inductive Issue where
  /-- an operation word, from the host or the transport (R80) -/
  | word (w : OpWord)
  /-- a call of the Command Catalog by its name and arguments (R182; log 19) -/
  | invoke (c : NamedCall)
  /-- a call of the Command Catalog, written as its outbound frame (R70, R88) -/
  | call (frame : List Byte)
  /-- the bytes of one transport read, an inbound buffer (R15, R71, R88) -/
  | buffer (b : List Byte)
  /-- the transport reports to the host that a write or a read failed; the block is not told (R198) -/
  | transportFailed (e : TransportError)
deriving DecidableEq, Repr

/-- Why the decoder gives no instruction for an item. Every operation word (R85) and every named call has
one. -/
inductive DecodeError where
  /-- fewer than the four bytes a table row fixes (R88) -/
  | shortHeader
  /-- the first two bytes are not the sync bytes of the item's direction (R70, R71) -/
  | wrongSync
  /-- the frame ends before its length byte or before its announced payload (R70) -/
  | truncatedFrame
  /-- a command byte the catalog does not assign (R183) -/
  | unassignedCommand (cmd : Byte)
  /-- a payload that no call of this command byte has (R171, R176, R177, R179) -/
  | payloadShape
  /-- an inbound status byte that is no row of the table (R72) -/
  | otherStatus (status : Byte)
  /-- a report of the transport, which is no row of the table (R198) -/
  | transportReport
deriving DecidableEq, Repr

/-- What the decoder answers. -/
inductive Decoded where
  | instr (i : Instr)
  | rejected (e : DecodeError)
deriving DecidableEq, Repr

end Sys2Proof
end

