-- ==== Sys2Proof/WellFormed.lean ====
section
/-! DEFINITION. Which instructions have an encoding. Every operand of an operation has the width of
its field, so an operation always has one (R80 to R82). A catalog command has one when its payload
fits the one-byte length field (R73) and its frame names it and no other command (log 5). -/

namespace Sys2Proof

/-- `i` has an encoding that names it. For the catalog commands: the payload of R172 to R180 has at
most `LEN_MAX` bytes; a password that stands before other variable bytes has its six bytes; and a
Write Sector payload is not of Change Password's length 0x0E (the two share command byte 0x14). -/
def Instr.wellFormed : Instr → Bool
  | .nop => true
  | .reset => true
  | .xclr => true
  | .xabs _ => true
  | .txbegin _ _ _ => true
  | .txpay _ => true
  | .txclr => true
  | .rxclr => true
  | .rxb _ => true
  | .rxend => true
  | .rxrd _ => true
  | .payrd _ => true
  | .pack _ _ => true
  | .reservedD => true
  | .reservedE => true
  | .reservedF => true
  | .cmdWriteUid _ uid => decide (uid.length ≤ Config.lenMax)
  | .cmdReadUid _ => true
  | .cmdReadSector _ _ _ _ password => decide (3 + password.length ≤ Config.lenMax)
  | .cmdWriteSector _ _ _ _ password sectorData =>
      decide (password.length = Config.passwordLen)
        && decide (3 + password.length + sectorData.length ≤ Config.lenMax)
        && decide (3 + password.length + sectorData.length ≠ 2 + 2 * Config.passwordLen)
  | .cmdChangePassword _ _ _ oldPassword newPassword =>
      decide (oldPassword.length = Config.passwordLen)
        && decide (newPassword.length = Config.passwordLen)
  | .cmdReadId _ => true
  | .cmdWriteChipId _ id => decide (1 + id.length ≤ Config.lenMax)
  | .cmdReadAllBlocks _ _ password => decide (1 + password.length ≤ Config.lenMax)
  | .cmdReadContactlessUid _ => true
  | .cmdWriteTagSector _ raw => decide (raw.length ≤ Config.lenMax)
  | .statusOk _ _ => true
  | .statusFail _ _ => true

end Sys2Proof
end

