-- ==== Sys2Proof/Decode.lean ====
section
/-! DEFINITION. The decoder, total on every item and rejecting by name, then the encoder, both from
spec/30_encoding.md R70, R80 to R88 and the command rules R171 to R180; then the opcode table's
match and mask, and the reading of one table word that the host asks for. -/

namespace Sys2Proof

/-! ## Operation words -/

/-- `op = OPW[27:24]` (R80). -/
def opField (w : OpWord) : BitVec 4 := w.extractLsb' 24 4
/-- `a = OPW[23:16]` (R80). -/
def aField (w : OpWord) : Byte := w.extractLsb' 16 8
/-- `b = OPW[15:0]` (R80). -/
def bField (w : OpWord) : Half := w.extractLsb' 0 16
/-- `b[15:8]`, the command of TXBEGIN (R82). -/
def bHigh (w : OpWord) : Byte := w.extractLsb' 8 8
/-- `b[7:0]`, the length of TXBEGIN (R82). -/
def bLow (w : OpWord) : Byte := w.extractLsb' 0 8
/-- `b[8:0]`, the buffer address of RXRD (R81, R82). -/
def bAddr (w : OpWord) : BufAddr := w.extractLsb' 0 9

/-- The operation of a 28-bit word: every word is one of the thirteen operations or reserved (R84,
R85); a field the operation does not use is ignored (R81). -/
def decodeWord (w : OpWord) : Instr :=
  match (opField w).toNat with
  | 0x0 => .nop
  | 0x1 => .reset
  | 0x2 => .xclr
  | 0x3 => .xabs (aField w)
  | 0x4 => .txbegin (aField w) (bHigh w) (bLow w)
  | 0x5 => .txpay (aField w)
  | 0x6 => .txclr
  | 0x7 => .rxclr
  | 0x8 => .rxb (aField w)
  | 0x9 => .rxend
  | 0xA => .rxrd (bAddr w)
  | 0xB => .payrd (aField w)
  | 0xC => .pack (aField w) (bField w)
  | 0xD => .reservedD
  | 0xE => .reservedE
  | _ => .reservedF  -- 0xF: the field has four bits

/-! ## Catalog calls, by their outbound frame -/

/-- The call that a frame's command byte and payload name (R171 to R183). Two pairs of commands share
a byte and are told apart by the length (table notes; log 5). DESIGN CHOICE (log 6): a one-byte argument
that the payload is too short to hold is read as 0. In Read Sector, Write Sector and Read All Blocks such a
call has no six-byte password, so the catalog rejects it. A Write Chip ID frame without its count byte, which
R177 never produces, is read as Write Chip ID with an empty id, a call whose own frame has the payload
`[0x00]`. -/
def decodeCommand (addr cmd : Byte) (p : List Byte) : Decoded :=
  if cmd = 0x11 then .instr (.cmdWriteUid addr p)
  else if cmd = 0x12 then
    if p.length = 0 then .instr (.cmdReadUid addr)
    else .instr (.cmdReadSector addr (p.getD 0 0) (p.getD 1 0) (p.getD 2 0) (p.drop 3))
  else if cmd = 0x14 then
    if p.length = 0x0E then
      .instr (.cmdChangePassword addr (p.getD 0 0) (p.getD 1 0)
        ((p.drop 2).take Config.passwordLen) (p.drop (2 + Config.passwordLen)))
    else
      .instr (.cmdWriteSector addr (p.getD 0 0) (p.getD 1 0) (p.getD 2 0)
        ((p.drop 3).take Config.passwordLen) (p.drop (3 + Config.passwordLen)))
  else if cmd = 0x15 then
    if p.length = 0 then .instr (.cmdReadId addr) else .rejected .payloadShape
  else if cmd = 0x16 then
    if (p.getD 0 0).toNat = (p.drop 1).length then .instr (.cmdWriteChipId addr (p.drop 1))
    else .rejected .payloadShape
  else if cmd = 0x17 then .instr (.cmdReadAllBlocks addr (p.getD 0 0) (p.drop 1))
  else if cmd = 0x19 then
    if p.length = 0 then .instr (.cmdReadContactlessUid addr) else .rejected .payloadShape
  else if cmd = 0x21 then .instr (.cmdWriteTagSector addr p)
  else .rejected (.unassignedCommand cmd)

/-- The call an outbound frame names (R70, R88). The length byte delimits the payload; the checksum
byte after it is the builder's to compute and is not compared (log 6). -/
def decodeCall : List Byte → Decoded
  | s0 :: s1 :: addr :: cmd :: rest =>
    if s0 = Config.txSync0 ∧ s1 = Config.txSync1 then
      match rest with
      | [] => .rejected .truncatedFrame
      | n :: body =>
        if body.length < n.toNat then .rejected .truncatedFrame
        else decodeCommand addr cmd (body.take n.toNat)
    else .rejected .wrongSync
  | _ => .rejected .shortHeader

/-! ## Inbound buffers -/

/-- The INFRAME row an inbound buffer matches: sync bytes and one of the two status values, the whole
byte compared (R72, R88). -/
def decodeBuffer : List Byte → Decoded
  | s0 :: s1 :: addr :: status :: rest =>
    if s0 = Config.rxSync0 ∧ s1 = Config.rxSync1 then
      if status = Config.stOk then .instr (.statusOk addr rest)
      else if status = Config.stFail then .instr (.statusFail addr rest)
      else .rejected (.otherStatus status)
    else .rejected .wrongSync
  | _ => .rejected .shortHeader

/-! ## Calls by name -/

/-- The instruction that a named call is, its arguments unchanged (R182; log 19). -/
def NamedCall.toInstr : NamedCall → Instr
  | .writeUid addr uid => .cmdWriteUid addr uid
  | .readUid addr => .cmdReadUid addr
  | .readSector addr sector block group password => .cmdReadSector addr sector block group password
  | .writeSector addr sector block group password sectorData =>
      .cmdWriteSector addr sector block group password sectorData
  | .changePassword addr sector group oldPassword newPassword =>
      .cmdChangePassword addr sector group oldPassword newPassword
  | .readId addr => .cmdReadId addr
  | .writeChipId addr id => .cmdWriteChipId addr id
  | .readAllBlocks addr group password => .cmdReadAllBlocks addr group password
  | .readContactlessUid addr => .cmdReadContactlessUid addr
  | .writeTagSector addr raw => .cmdWriteTagSector addr raw

/-- The instruction of an item. -/
def decode : Issue → Decoded
  | .word w => .instr (decodeWord w)
  | .invoke c => .instr c.toInstr
  | .call frame => decodeCall frame
  | .buffer b => decodeBuffer b
  | .transportFailed _ => .rejected .transportReport

/-! ## The encoder -/

/-- The word of an operation, `(op << 24) | (a << 16) | b` (R86). -/
def encodeWord (op : BitVec 4) (a : Byte) (b : Half) : OpWord := op ++ a ++ b

/-- The item that presents an instruction: an operation word with unused fields 0 (R84, R86), the
outbound frame of a catalog command (R171 to R180), or an inbound buffer (R71). -/
def encode : Instr → Issue
  | .nop => .word (encodeWord 0x0 0 0)
  | .reset => .word (encodeWord 0x1 0 0)
  | .xclr => .word (encodeWord 0x2 0 0)
  | .xabs d => .word (encodeWord 0x3 d 0)
  | .txbegin addr cmd n => .word (encodeWord 0x4 addr (cmd ++ n))
  | .txpay d => .word (encodeWord 0x5 d 0)
  | .txclr => .word (encodeWord 0x6 0 0)
  | .rxclr => .word (encodeWord 0x7 0 0)
  | .rxb d => .word (encodeWord 0x8 d 0)
  | .rxend => .word (encodeWord 0x9 0 0)
  | .rxrd k => .word (encodeWord 0xA 0 (k.setWidth 16))
  | .payrd i => .word (encodeWord 0xB i 0)
  | .pack f id => .word (encodeWord 0xC f id)
  | .reservedD => .word (encodeWord 0xD 0 0)
  | .reservedE => .word (encodeWord 0xE 0 0)
  | .reservedF => .word (encodeWord 0xF 0 0)
  | .cmdWriteUid addr uid => .call (Machine.frameEncode addr 0x11 uid)
  | .cmdReadUid addr => .call (Machine.frameEncode addr 0x12 [])
  | .cmdReadSector addr sector block group password =>
      .call (Machine.frameEncode addr 0x12 ([sector, block, group] ++ password))
  | .cmdWriteSector addr sector block group password sectorData =>
      .call (Machine.frameEncode addr 0x14 ([sector, block, group] ++ password ++ sectorData))
  | .cmdChangePassword addr sector group oldPassword newPassword =>
      .call (Machine.frameEncode addr 0x14 ([sector, group] ++ oldPassword ++ newPassword))
  | .cmdReadId addr => .call (Machine.frameEncode addr 0x15 [])
  | .cmdWriteChipId addr id =>
      .call (Machine.frameEncode addr 0x16 ([BitVec.ofNat 8 id.length] ++ id))
  | .cmdReadAllBlocks addr group password =>
      .call (Machine.frameEncode addr 0x17 ([group] ++ password))
  | .cmdReadContactlessUid addr => .call (Machine.frameEncode addr 0x19 [])
  | .cmdWriteTagSector addr raw => .call (Machine.frameEncode addr 0x21 raw)
  | .statusOk addr rest => .buffer ([Config.rxSync0, Config.rxSync1, addr, Config.stOk] ++ rest)
  | .statusFail addr rest => .buffer ([Config.rxSync0, Config.rxSync1, addr, Config.stFail] ++ rest)

/-! ## The opcode table -/

/-- The `match` of an instruction's row in spec/opcode_table.json (R85, R88). -/
def tableMatch : Instr → Nat
  | .nop => 0x0000000
  | .reset => 0x1000000
  | .xclr => 0x2000000
  | .xabs _ => 0x3000000
  | .txbegin _ _ _ => 0x4000000
  | .txpay _ => 0x5000000
  | .txclr => 0x6000000
  | .rxclr => 0x7000000
  | .rxb _ => 0x8000000
  | .rxend => 0x9000000
  | .rxrd _ => 0xA000000
  | .payrd _ => 0xB000000
  | .pack _ _ => 0xC000000
  | .reservedD => 0xD000000
  | .reservedE => 0xE000000
  | .reservedF => 0xF000000
  | .cmdWriteUid _ _ => 0xABBA0011
  | .cmdReadUid _ => 0xABBA0012
  | .cmdReadSector _ _ _ _ _ => 0xABBA0012
  | .cmdWriteSector _ _ _ _ _ _ => 0xABBA0014
  | .cmdChangePassword _ _ _ _ _ => 0xABBA0014
  | .cmdReadId _ => 0xABBA0015
  | .cmdWriteChipId _ _ => 0xABBA0016
  | .cmdReadAllBlocks _ _ _ => 0xABBA0017
  | .cmdReadContactlessUid _ => 0xABBA0019
  | .cmdWriteTagSector _ _ => 0xABBA0021
  | .statusOk _ _ => 0xCDDC0081
  | .statusFail _ _ => 0xCDDC0080

/-- Bytes 0 to 3 of a frame read as one 32-bit value with byte 0 in bits 31..24 (R88). -/
def frameKey (b : List Byte) : BitVec 32 := b.getD 0 0 ++ b.getD 1 0 ++ b.getD 2 0 ++ b.getD 3 0

/-- The number the table's match and mask are over: the operation word, or bytes 0 to 3 of a frame (R88). A
named call and a report of the transport have no bits; no encoding is one of them. -/
def issueKey : Issue → BitVec 32
  | .word w => w.setWidth 32
  | .invoke _ => 0
  | .call frame => frameKey frame
  | .buffer b => frameKey b
  | .transportFailed _ => 0

/-- The `mask` of the rows of an item's kind: the operation code, or all of bytes 0 to 3 but the address (R85, R88). -/
def tableMask : Issue → BitVec 32
  | .word _ => 0x0F000000
  | .invoke _ => 0
  | .call _ => 0xFFFF00FF
  | .buffer _ => 0xFFFF00FF
  | .transportFailed _ => 0

/-- The mnemonic of an instruction's row in spec/opcode_table.json (R84, R86, R88). -/
def mnemonic : Instr → String
  | .nop => "NOP"
  | .reset => "RESET"
  | .xclr => "XCLR"
  | .xabs _ => "XABS"
  | .txbegin _ _ _ => "TXBEGIN"
  | .txpay _ => "TXPAY"
  | .txclr => "TXCLR"
  | .rxclr => "RXCLR"
  | .rxb _ => "RXB"
  | .rxend => "RXEND"
  | .rxrd _ => "RXRD"
  | .payrd _ => "PAYRD"
  | .pack _ _ => "PACK"
  | .reservedD => "RESERVED_D"
  | .reservedE => "RESERVED_E"
  | .reservedF => "RESERVED_F"
  | .cmdWriteUid _ _ => "CMD_WRITE_UID"
  | .cmdReadUid _ => "CMD_READ_UID"
  | .cmdReadSector _ _ _ _ _ => "CMD_READ_SECTOR"
  | .cmdWriteSector _ _ _ _ _ _ => "CMD_WRITE_SECTOR"
  | .cmdChangePassword _ _ _ _ _ => "CMD_CHANGE_PASSWORD"
  | .cmdReadId _ => "CMD_READ_ID"
  | .cmdWriteChipId _ _ => "CMD_WRITE_CHIP_ID"
  | .cmdReadAllBlocks _ _ _ => "CMD_READ_ALL_BLOCKS"
  | .cmdReadContactlessUid _ => "CMD_READ_CONTACTLESS_UID"
  | .cmdWriteTagSector _ _ => "CMD_WRITE_TAG_SECTOR"
  | .statusOk _ _ => "STATUS_OK"
  | .statusFail _ _ => "STATUS_FAIL"

/-- The operands of an operation's written form, in the order of R86: address, command, length for
TXBEGIN, facility, id for PACK, the single operand otherwise. Catalog calls and inbound buffers have
no written form in R86. -/
def writtenOperands : Instr → List Nat
  | .nop => []
  | .reset => []
  | .xclr => []
  | .xabs d => [d.toNat]
  | .txbegin addr cmd n => [addr.toNat, cmd.toNat, n.toNat]
  | .txpay d => [d.toNat]
  | .txclr => []
  | .rxclr => []
  | .rxb d => [d.toNat]
  | .rxend => []
  | .rxrd k => [k.toNat]
  | .payrd i => [i.toNat]
  | .pack f id => [f.toNat, id.toNat]
  | .reservedD => []
  | .reservedE => []
  | .reservedF => []
  | .cmdWriteUid _ _ => []
  | .cmdReadUid _ => []
  | .cmdReadSector _ _ _ _ _ => []
  | .cmdWriteSector _ _ _ _ _ _ => []
  | .cmdChangePassword _ _ _ _ _ => []
  | .cmdReadId _ => []
  | .cmdWriteChipId _ _ => []
  | .cmdReadAllBlocks _ _ _ => []
  | .cmdReadContactlessUid _ => []
  | .cmdWriteTagSector _ _ => []
  | .statusOk _ _ => []
  | .statusFail _ _ => []

/-- The operation that a written line names, its mnemonic and its operands in the order of R86, each
operand within the width of its field (R80, R82); `none` for anything else. -/
def assembleLine (name : String) (operands : List Nat) : Option Instr :=
  match operands with
  | [] =>
    if name = "NOP" then some .nop
    else if name = "RESET" then some .reset
    else if name = "XCLR" then some .xclr
    else if name = "TXCLR" then some .txclr
    else if name = "RXCLR" then some .rxclr
    else if name = "RXEND" then some .rxend
    else none
  | [x] =>
    if name = "RXRD" then (if x < 2 ^ 9 then some (.rxrd (BitVec.ofNat 9 x)) else none)
    else if 2 ^ 8 ≤ x then none
    else if name = "XABS" then some (.xabs (BitVec.ofNat 8 x))
    else if name = "TXPAY" then some (.txpay (BitVec.ofNat 8 x))
    else if name = "RXB" then some (.rxb (BitVec.ofNat 8 x))
    else if name = "PAYRD" then some (.payrd (BitVec.ofNat 8 x))
    else none
  | [x, y] =>
    if name = "PACK" ∧ x < 2 ^ 8 ∧ y < 2 ^ 16 then some (.pack (BitVec.ofNat 8 x) (BitVec.ofNat 16 y))
    else none
  | [x, y, z] =>
    if name = "TXBEGIN" ∧ x < 2 ^ 8 ∧ y < 2 ^ 8 ∧ z < 2 ^ 8 then
      some (.txbegin (BitVec.ofNat 8 x) (BitVec.ofNat 8 y) (BitVec.ofNat 8 z))
    else none
  | _ => none

/-! ## One word of the opcode table -/

/-- The item whose bits are `w`, numbered as the table numbers them: below 2^28 an operation word; else
bytes 0 to 3 of a frame with byte 0 in bits 31..24 (R88), any further byte j of the frame in bits
`8*j + 7 .. 8*j`, and the remaining bytes of a frame of that length byte (R75) zero (log 3). -/
def tableIssue (nbits w : Nat) : Issue :=
  if w < 2 ^ 28 then .word (BitVec.ofNat 28 w)
  else
    let head : List Byte := [BitVec.ofNat 8 (w / 2 ^ 24), BitVec.ofNat 8 (w / 2 ^ 16),
      BitVec.ofNat 8 (w / 2 ^ 8), BitVec.ofNat 8 w]
    let more : List Byte := (List.range ((nbits - 32) / 8)).map
      (fun j => BitVec.ofNat 8 (w / 2 ^ (32 + 8 * j)))
    let size := Config.frameFixed + (more.getD 0 0).toNat
    let b := head ++ more ++ List.replicate (size - 4 - more.length) 0
    if b.getD 0 0 = Config.rxSync0 then .buffer b else .call b

/-- The instruction the decoder reads from the table word `w` of `nbits` bits. -/
def decodeTableWord (nbits w : Nat) : Option Instr :=
  match decode (tableIssue nbits w) with
  | .instr i => some i
  | .rejected _ => none

end Sys2Proof
end

