-- ==== Sys2Proof/Machine/State.lean ====
section
/-! DEFINITION. The architectural state (spec/10_state.md R20 to R38), grouped by unit, the reasons a
step can stop, and the state after reset (R46). Plain data. Three fields of `State` are the model's own
and not the spec's: `issue` (log 1), `request` and `catalog` (log 8). -/

namespace Sys2Proof.Machine

/-- `RX_VERDICT`: the outcome of the closed buffer (R27, R190). The seven codes 0 to 6; the value 7 is
never produced. `Verdict.code` gives the 3-bit code. -/
inductive Verdict where
  /-- 0 `V_NONE`: no verdict -/
  | vNone
  /-- 1 `V_OK`: success -/
  | vOk
  /-- 2 `V_MALFORMED`: `MalformedFrame` -/
  | vMalformed
  /-- 3 `V_CHECKSUM`: `ChecksumMismatch` -/
  | vChecksum
  /-- 4 `V_HEADER`: `InvalidHeader` -/
  | vHeader
  /-- 5 `V_OPFAILED`: `OperationFailed` -/
  | vOpFailed
  /-- 6 `V_UNEXPECTED`: `UnexpectedStatus` -/
  | vUnexpected
deriving DecidableEq, Repr

/-- The receive buffer RXBUF (R23, R50): the written locations, addresses strictly rising. A location
that is not listed holds no value (R52). -/
abbrev Memory := List Host.Cell

/-- CHK unit. -/
structure Chk where
  /-- `X_ACC` (R21) -/
  acc : Byte
deriving DecidableEq, Repr

/-- RXV unit. -/
structure Rxv where
  /-- `RX_ACC` (R22) -/
  acc : Byte
  /-- `RXBUF[0..260]` (R23) -/
  buf : Memory
  /-- `RX_CNT` (R24) -/
  cnt : BufAddr
  /-- `RX_OVF` (R25) -/
  ovf : Bool
  /-- `RX_DONE` (R26) -/
  done : Bool
  /-- `RX_VERDICT` (R27) -/
  verdict : Verdict
  /-- `RX_PLEN` (R28) -/
  plen : Byte
  /-- `RX_DROP` (R29) -/
  drop : Bool
  /-- `RD_DATA` (R37) -/
  rdData : Byte
  /-- `RD_OK` (R37) -/
  rdOk : Bool
deriving DecidableEq, Repr

/-- TXB unit. -/
structure Txb where
  /-- `TX_BUSY` (R30) -/
  busy : Bool
  /-- `TX_REM` (R31) -/
  rem : Byte
  /-- `TX_ACC` (R32) -/
  acc : Byte
  /-- `TX_OUT`, oldest byte first (R33) -/
  out : List Byte
  /-- `TX_ERR` (R34) -/
  err : Bool
deriving DecidableEq, Repr

/-- The five result bytes of the packer, named as in R152. -/
structure CardBytes where
  o0 : Byte
  o1 : Byte
  o2 : Byte
  o3 : Byte
  o4 : Byte
deriving DecidableEq, Repr

/-- CNP unit. -/
structure Cnp where
  /-- `CN_OUT[0..4]` (R35) -/
  out : CardBytes
  /-- `CN_VALID` (R36) -/
  valid : Bool
deriving DecidableEq, Repr

/-- The constraint that an `InvalidArgument` names, with what was observed (R181). -/
inductive Constraint where
  /-- the password has not exactly 6 bytes (R173, R174, R178) -/
  | passwordLength (observed : Nat)
  /-- the old password has not exactly 6 bytes (R175) -/
  | oldPasswordLength (observed : Nat)
  /-- the new password has not exactly 6 bytes (R175) -/
  | newPasswordLength (observed : Nat)
  /-- the group is neither 0x0A nor 0x0B (R178) -/
  | groupRange (observed : Byte)
  /-- the payload does not fit the one-byte length field (R73, R110; log 11) -/
  | payloadLength (observed : Nat)
deriving DecidableEq, Repr

/-- A typed error of the Command Catalog (R186, R198). -/
inductive CatalogError where
  /-- "caller-supplied data violates a length/range precondition" (R198) -/
  | invalidArgument (c : Constraint)
  /-- "operation intentionally unsupported" (R198, R180) -/
  | notImplemented
  /-- the reply was malformed (R191) -/
  | malformedFrame
  /-- the reply failed its checksum (R192) -/
  | checksumMismatch
  /-- the reply had no sync bytes (R193) -/
  | invalidHeader
  /-- the device reported failure; the locations of the raw response that the host has read with RXRD, with
  their bytes (R129, R194, R203; log 23) -/
  | operationFailed (raw : Memory)
  /-- the reply's status byte was not recognized (R195) -/
  | unexpectedStatus
  /-- "transport-level I/O errors (opaque pass-through)", the transport's error unchanged (R186, R198) -/
  | transportError (e : TransportError)
deriving DecidableEq, Repr

/-- How far the one request in flight is (R182, R187, R223). Host software's, not the block's (log 8). -/
inductive Request where
  /-- no request is in flight -/
  | idle
  /-- the request was issued to the builder; the validator has not been cleared for its reply yet -/
  | sent
  /-- the validator was cleared for the reply, whose verdict has not been formed yet -/
  | listening
  /-- the verdict is V_OK and the payload is read with PAYRD; `got` holds the bytes read so far, in order -/
  | reading (got : List Byte)
deriving DecidableEq, Repr

/-- What the Command Catalog last did (R182). Host software's, not the block's (log 8). -/
inductive CallStatus where
  /-- no call has been made -/
  | noCall
  /-- the preconditions held and the request was issued to the builder -/
  | sent
  /-- the call was not made, because an earlier request is in flight; nothing was issued (R187; log 20) -/
  | turnedAway
  /-- the call returned an error and issued nothing (R181) -/
  | rejected (e : CatalogError)
  /-- the request that was in flight ended, and its call returned this: the payload or an error (R186) -/
  | returned (r : Except CatalogError (List Byte))
  /-- the request that was in flight ended with V_OPFAILED, and its call returned `OperationFailed`; the buffer
  still stands, and `raw` is what the host has read of it with RXRD (R129, R226; log 23) -/
  | opFailed (raw : Memory)
  /-- the buffer of a good reply was cleared before its payload was read, against R226; the call has nothing
  to return, since "truncated data" must not be (R186; log 22) -/
  | replyLost
deriving DecidableEq, Repr

/-- The whole state. -/
structure State where
  /-- CHK unit -/
  chk : Chk
  /-- RXV unit -/
  rxv : Rxv
  /-- TXB unit -/
  txb : Txb
  /-- CNP unit -/
  cnp : Cnp
  /-- `OP_ERR` (R38) -/
  opErr : Bool
  /-- the model's own: what has been presented and not yet run, next item first (log 1) -/
  issue : List Issue
  /-- the model's own: the catalog's request in flight (log 8) -/
  request : Request
  /-- the model's own: what the catalog last did (log 8) -/
  catalog : CallStatus
deriving DecidableEq, Repr

/-- Why the machine stops with a fault. -/
inductive Fault where
  /-- RXEND, RXRD or PAYRD would read RXBUF at `k`, below RX_CNT but holding no value (R52). Raised by
  these three in states that no run from reset reaches (R47). Safe: R52 forbids giving it a value (log 9). -/
  | unwrittenLocation (k : Nat)
deriving DecidableEq, Repr

/-- Why the machine refuses an item. -/
inductive Refusal where
  /-- an instruction that has no meaning in the model; no arm of `exec` answers with it. Safe. -/
  | notModelled (mnemonic : String)
  /-- bytes presented as a catalog call that are no call's frame (R88, R183); raised by the step only.
  Safe: the catalog has no entry for them, so no call produces them (log 6). -/
  | badCall (e : DecodeError)
deriving DecidableEq, Repr

/-- CHK after reset (R46). -/
def Chk.reset : Chk := { acc := 0x00 }

/-- RXV after reset (R46): open and empty, every location of RXBUF without a value. -/
def Rxv.reset : Rxv :=
  { acc := 0x00, buf := [], cnt := 0, ovf := false, done := false, verdict := .vNone, plen := 0x00,
    drop := false, rdData := 0x00, rdOk := false }

/-- TXB after reset (R46): idle. -/
def Txb.reset : Txb := { busy := false, rem := 0x00, acc := 0x00, out := [], err := false }

/-- CNP after reset (R46): no result. -/
def Cnp.reset : Cnp :=
  { out := { o0 := 0x00, o1 := 0x00, o2 := 0x00, o3 := 0x00, o4 := 0x00 }, valid := false }

/-- The machine right after reset (R46, R166, R215); nothing presented, no catalog call made and no request
in flight. -/
def State.reset : State :=
  { chk := Chk.reset, rxv := Rxv.reset, txb := Txb.reset, cnp := Cnp.reset, opErr := false,
    issue := [], request := .idle, catalog := .noCall }

/-- Replace the CHK unit. -/
def State.setChk (s : State) (c : Chk) : State := { s with chk := c }
/-- Replace the RXV unit. -/
def State.setRxv (s : State) (r : Rxv) : State := { s with rxv := r }
/-- Replace the TXB unit. -/
def State.setTxb (s : State) (t : Txb) : State := { s with txb := t }
/-- Replace the CNP unit. -/
def State.setCnp (s : State) (c : Cnp) : State := { s with cnp := c }
/-- Replace `OP_ERR`. -/
def State.setOpErr (s : State) (b : Bool) : State := { s with opErr := b }
/-- Replace the presented items. -/
def State.setIssue (s : State) (l : List Issue) : State := { s with issue := l }
/-- Replace the stage of the catalog's request. -/
def State.setRequest (s : State) (r : Request) : State := { s with request := r }
/-- Replace the catalog's record. -/
def State.setCatalog (s : State) (c : CallStatus) : State := { s with catalog := c }

end Sys2Proof.Machine
end

