-- ==== Sys2Proof/Machine/Ops.lean ====
section
/-! DEFINITION. The shared operations: RXBUF, the XOR accumulator, the outbound stream, and the
block's form of taking an exception (`raise`, R13, R196) with the return from it (R200). -/

namespace Sys2Proof.Machine

/-! ## The receive buffer (spec/20_memory.md) -/

/-- What location `k` holds; `none` for a location that was not written (R52). -/
def Memory.read : Memory → Nat → Option Byte
  | [], _ => none
  | (a, v) :: rest, k => if a = k then some v else Memory.read rest k

/-- `MemWrite(k, 1, v)`: location `k` holds `v`, every other one what it held (R51). -/
def Memory.write : Memory → Nat → Byte → Memory
  | [], k, v => [(k, v)]
  | (a, w) :: rest, k, v =>
    if k < a then (k, v) :: (a, w) :: rest
    else if k = a then (k, v) :: rest
    else (a, w) :: Memory.write rest k v

/-- The canonical form: addresses strictly rising. No entry can equal what an unlisted address reads
as, because an unlisted address has no value. -/
def Memory.wf : Memory → Bool
  | [] => true
  | [_] => true
  | (a, _) :: (b, w) :: rest => decide (a < b) && Memory.wf ((b, w) :: rest)

/-- `MemRead(k, 1)`: defined only for a location that holds a value (R52). -/
def Memory.fetch (m : Memory) (k : Nat) : Except Fault Byte :=
  match m.read k with
  | some v => .ok v
  | none => .error (.unwrittenLocation k)

/-- The bytes the buffer retains, index 0 first (R203). -/
def Memory.bytes (m : Memory) : List Byte := m.map Prod.snd

/-! ## The XOR accumulator -/

/-- Absorb: `A <- A ^ d` (R101). -/
def absorb (a d : Byte) : Byte := a ^^^ d

/-! ## The outbound stream -/

/-- `emit(v)` for the bytes of `l` in order: append them to `TX_OUT` (R13, R33). -/
def Txb.emit (t : Txb) (l : List Byte) : Txb := { t with out := t.out ++ l }

/-- Write `TX_BUSY`, `TX_REM` and `TX_ACC`, the builder's place inside a frame (R30, R31, R32). -/
def Txb.place (t : Txb) (busy : Bool) (rem acc : Byte) : Txb :=
  { t with busy := busy, rem := rem, acc := acc }

/-! ## Outcomes of a buffer -/

/-- `raise <Outcome>` (R13, R196): RX_VERDICT gets the code, RX_PLEN the payload length (0x00 unless
V_OK), RX_DONE gets 1; nothing else changes, no control is transferred. -/
def Rxv.raiseVerdict (r : Rxv) (v : Verdict) (plen : Byte) : Rxv :=
  { r with verdict := v, plen := plen, done := true }

/-- Leaving the closed state (R200), the operation of RXCLR (R128): the verdict is erased, the buffer is
open and empty, every location of RXBUF unwritten; the result latch stays. -/
def Rxv.clear (r : Rxv) : Rxv :=
  { r with cnt := 0, ovf := false, acc := 0x00, done := false, verdict := .vNone, plen := 0x00,
           drop := false, buf := [] }

/-- Set the result latch after an allowed read (R37). -/
def Rxv.latch (r : Rxv) (v : Byte) : Rxv := { r with rdData := v, rdOk := true }

/-- Set the result latch after a refused read: the filler 0x00 and RD_OK = 0 (R37). -/
def Rxv.refuseRead (r : Rxv) : Rxv := { r with rdData := 0x00, rdOk := false }

/-! ## Outcomes of a step -/

/-- The step that leaves the RXV unit as `r`, or stops with its fault. -/
def State.withRxv (s : State) (r : Except Fault Rxv) : Host.Outcome State Fault Refusal :=
  match r with
  | .ok r => .next (s.setRxv r)
  | .error f => .fault f

end Sys2Proof.Machine
end

