-- ==== Sys2Proof/Machine/Flags.lean ====
section
/-! DEFINITION. Flags: the codes of the verdicts, the sticky flags of refused operations (`refuse(FLAG)`
of R13, R202), the status view STAT (R43) and the named views of RXBUF (R39). -/

namespace Sys2Proof.Machine

/-- The 3-bit code of a verdict (R27, R190). -/
def Verdict.code : Verdict → BitVec 3
  | .vNone => 0
  | .vOk => 1
  | .vMalformed => 2
  | .vChecksum => 3
  | .vHeader => 4
  | .vOpFailed => 5
  | .vUnexpected => 6

/-- `refuse(RX_DROP)` (R29, R126). -/
def Rxv.refuseDrop (r : Rxv) : Rxv := { r with drop := true }

/-- `refuse(TX_ERR)` (R34, R111, R112). -/
def Txb.refuseErr (t : Txb) : Txb := { t with err := true }

/-- `refuse(OP_ERR)` (R38, R167). -/
def State.refuseOp (s : State) : State := s.setOpErr true

/-- The status view STAT, 16 bits, a packing of flags that holds no state of its own (R43): from bit 15
down, five zeros, RD_OK, OP_ERR, CN_VALID, TX_ERR, TX_BUSY, RX_DROP, RX_OVF, RX_VERDICT, RX_DONE. -/
def State.stat (s : State) : BitVec 16 :=
  (0 : BitVec 5) ++ BitVec.ofBool s.rxv.rdOk ++ BitVec.ofBool s.opErr ++ BitVec.ofBool s.cnp.valid
    ++ BitVec.ofBool s.txb.err ++ BitVec.ofBool s.txb.busy ++ BitVec.ofBool s.rxv.drop
    ++ BitVec.ofBool s.rxv.ovf ++ s.rxv.verdict.code ++ BitVec.ofBool s.rxv.done

/-- A named view of RXBUF, defined when RX_CNT is above its index (R39). -/
def Rxv.view (r : Rxv) (k : Nat) : Option Byte := if k < r.cnt.toNat then r.buf.read k else none

/-- `RX_ADDR = RXBUF[2]` (R39); captured and never tested (R138). -/
def Rxv.rxAddr (r : Rxv) : Option Byte := r.view 2
/-- `RX_STATUS = RXBUF[3]` (R39). -/
def Rxv.rxStatus (r : Rxv) : Option Byte := r.view 3
/-- `RX_LEN = RXBUF[4]` (R39). -/
def Rxv.rxLen (r : Rxv) : Option Byte := r.view 4

end Sys2Proof.Machine
end

