-- ==== Sys2Proof/Machine/Operands.lean ====
section
/-! DEFINITION. Operand forms: how an operand becomes a buffer address, and how values are widened and
cut. The fields of an operation word are taken apart in Decode.lean (R80 to R82). -/

namespace Sys2Proof.Machine

/-- `zext_9` of a byte (R13). -/
def zext9 (v : Byte) : BufAddr := v.setWidth 9

/-- The address PAYRD reads for payload index `i`: `5 + zext_9(i)` (R130). -/
def payAddr (i : Byte) : BufAddr := BitVec.ofNat 9 Config.rxPayFirst + zext9 i

/-- `trunc8(v)`, "bits 7..0 of" (R11). -/
def trunc8 (v : Half) : Byte := v.setWidth 8

/-- A byte widened to 16 bits, so that the packer's shifts lose no bit before a truncation (R152, R153). -/
def wide (v : Byte) : Half := v.setWidth 16

/-- One bit as a byte, 0 or 1 (R152). -/
def bitByte (b : Bool) : Byte := if b then 0x01 else 0x00

/-- `popcount(v)`, the count of one bits (R11). -/
def popcount (v : Half) : Nat := (List.range 16).countP (fun i => v.getLsbD i)

/-- `parity(v)`: true exactly when `v` has an odd count of one bits (R11). -/
def parity (v : Half) : Bool := popcount v % 2 == 1

end Sys2Proof.Machine
end

