-- ==== Sys2Proof/Machine/Rxv.lean ====
section
/-! DEFINITION. The RXV unit: RXCLR, RXB, RXEND, RXRD and PAYRD (spec/42_frame_decoder.md). -/

namespace Sys2Proof.Machine

/-- The part of RXB that keeps the byte: stored at RX_CNT, which advances, while RX_CNT is below 261;
otherwise only RX_OVF is set (R126, R51). -/
def Rxv.store (r : Rxv) (d : Byte) : Rxv :=
  if r.cnt.toNat < Config.rxbufDepth then
    { r with buf := r.buf.write r.cnt.toNat d, cnt := r.cnt + 1 }
  else { r with ovf := true }

/-- The part of RXB that sums the byte: bytes of index 3 and above are absorbed into RX_ACC. `cnt` is
the value of RX_CNT before the operation (R126, R22). -/
def Rxv.sum (r : Rxv) (cnt : BufAddr) (d : Byte) : Rxv :=
  if Config.rxCkFirst ≤ cnt.toNat then { r with acc := absorb r.acc d } else r

/-- RXB on the validator (R126): dropped when the buffer is closed. -/
def Rxv.present (r : Rxv) (d : Byte) : Rxv :=
  if r.done then r.refuseDrop else (r.store d).sum r.cnt d

/-- The verdict of RXEND (R131), the tests in the order size, checksum, header, status (R197). The sum
is a 9-bit one, at most 260 (R131). -/
def verdictOf (cnt : BufAddr) (acc : Byte) (buf : Memory) : Except Fault Verdict :=
  if cnt.toNat < Config.rxMin then .ok .vMalformed
  else if acc ≠ 0x00 then .ok .vChecksum
  else (buf.fetch 0).bind fun b0 => (buf.fetch 1).bind fun b1 =>
    if b0 ≠ Config.rxSync0 ∨ b1 ≠ Config.rxSync1 then .ok .vHeader
    else (buf.fetch 3).bind fun status =>
      if status = Config.stOk then (buf.fetch 4).bind fun len =>
        if zext9 len + BitVec.ofNat 9 Config.rxPayFirst > cnt then .ok .vMalformed else .ok .vOk
      else if status = Config.stFail then .ok .vOpFailed
      else .ok .vUnexpected

/-- RX_PLEN for a verdict: the length byte for V_OK, else 0x00 (R127, R28). -/
def verdictLen (v : Verdict) (buf : Memory) : Except Fault Byte :=
  if v = .vOk then buf.fetch 4 else .ok 0x00

/-- RXEND on the validator (R127): no effect on a closed buffer; otherwise the verdict is raised. -/
def Rxv.close (r : Rxv) : Except Fault Rxv :=
  if r.done then .ok r
  else (verdictOf r.cnt r.acc r.buf).bind fun v =>
    (verdictLen v r.buf).bind fun len => .ok (r.raiseVerdict v len)

/-- RXRD on the validator (R129): a byte of the closed buffer, or a refused read. -/
def Rxv.readRaw (r : Rxv) (k : BufAddr) : Except Fault Rxv :=
  if r.done = true ∧ k < r.cnt then (r.buf.fetch k.toNat).bind fun v => .ok (r.latch v)
  else .ok r.refuseRead

/-- PAYRD on the validator (R130): a payload byte of a successful buffer, or a refused read. -/
def Rxv.readPayload (r : Rxv) (i : Byte) : Except Fault Rxv :=
  if r.verdict = .vOk ∧ zext9 i < zext9 r.plen then
    (r.buf.fetch (payAddr i).toNat).bind fun v => .ok (r.latch v)
  else .ok r.refuseRead

/-- `RXCLR` (R128). -/
def execRxclr (s : State) : Host.Outcome State Fault Refusal := .next (s.setRxv s.rxv.clear)

/-- `RXB d` (R126). -/
def execRxb (d : Byte) (s : State) : Host.Outcome State Fault Refusal := .next (s.setRxv (s.rxv.present d))

/-- `RXEND` (R127). -/
def execRxend (s : State) : Host.Outcome State Fault Refusal := s.withRxv s.rxv.close

/-- `RXRD k` (R129). -/
def execRxrd (k : BufAddr) (s : State) : Host.Outcome State Fault Refusal := s.withRxv (s.rxv.readRaw k)

/-- `PAYRD i` (R130). -/
def execPayrd (i : Byte) (s : State) : Host.Outcome State Fault Refusal := s.withRxv (s.rxv.readPayload i)

/-- The pseudo-operation `DECODE b` on the validator: RXCLR, one RXB per byte of `b`, RXEND (R87). -/
def Rxv.judge (r : Rxv) (b : List Byte) : Except Fault Rxv := (b.foldl Rxv.present r.clear).close

/-- The payload of a successful buffer, `RXBUF[5 .. 5+RX_PLEN)` (R28): the bytes of `PAYRD 0` to
`PAYRD RX_PLEN-1` (R130). -/
def Rxv.payload (r : Rxv) : List Byte :=
  (List.range r.plen.toNat).filterMap (fun i => r.buf.read (Config.rxPayFirst + i))

end Sys2Proof.Machine
end

