-- ==== Sys2Proof/Machine/Txb.lean ====
section
/-! DEFINITION. The TXB unit: TXBEGIN, TXPAY and TXCLR (spec/41_frame_encoder.md). -/

namespace Sys2Proof.Machine

/-- TXBEGIN on the builder (R111): refused in a frame; otherwise the five header bytes are emitted, and
the checksum at once when no payload is announced. -/
def Txb.start (t : Txb) (addr cmd n : Byte) : Txb :=
  if t.busy then t.refuseErr
  else
    let header := [Config.txSync0, Config.txSync1, addr, cmd, n]
    let c := addr ^^^ cmd ^^^ n
    if n = 0 then (t.emit (header ++ [c])).place false 0 c
    else (t.emit header).place true n c

/-- TXPAY on the builder (R112): refused outside a frame; otherwise the byte is emitted, and after the
last announced byte the checksum. -/
def Txb.pay (t : Txb) (d : Byte) : Txb :=
  if t.busy then
    let c := absorb t.acc d
    if t.rem = 1 then (t.emit [d, c]).place false 0 c
    else (t.emit [d]).place true (t.rem - 1) c
  else t.refuseErr

/-- TXCLR on the builder (R113): idle, TX_ACC and TX_ERR cleared; emitted bytes stay sent. -/
def Txb.clear (t : Txb) : Txb := { t with busy := false, rem := 0, acc := 0x00, err := false }

/-- `TXBEGIN addr, cmd, n` (R111). -/
def execTxbegin (addr cmd n : Byte) (s : State) : Host.Outcome State Fault Refusal :=
  .next (s.setTxb (s.txb.start addr cmd n))

/-- `TXPAY d` (R112). -/
def execTxpay (d : Byte) (s : State) : Host.Outcome State Fault Refusal :=
  .next (s.setTxb (s.txb.pay d))

/-- `TXCLR` (R113). -/
def execTxclr (s : State) : Host.Outcome State Fault Refusal := .next (s.setTxb s.txb.clear)

/-- The pseudo-operation `ENCODE addr, cmd, p` on the builder: TXBEGIN with the length of `p`, then one
TXPAY per byte of `p` (R87). -/
def Txb.sendFrame (t : Txb) (addr cmd : Byte) (p : List Byte) : Txb :=
  p.foldl Txb.pay (t.start addr cmd (BitVec.ofNat 8 p.length))

end Sys2Proof.Machine
end

