-- ==== Sys2Proof/Machine/Catalog.lean ====
section
/-! DEFINITION. The Command Catalog (spec/45_command_catalog.md), host software above the block: each
call validates its arguments and shapes a payload (R170), then issues `ENCODE addr, command, payload`
to the builder (R182), or returns an error and issues nothing (R181). That is one step (log 4), and one
request is in flight at a time (R187). The rest of the flow of R182 is other items of the stream: the RXCLR,
the received bytes, the RXEND, the PAYRDs. The catalog follows it in `State.request` (`State.watch`): it reads
the verdict that belongs to its request, returns the error that it names (R186), or awaits the PAYRDs of the
payload and returns what they read. It never reads RXBUF itself: the bytes it holds are those that PAYRD and
RXRD have put into RD_DATA (R20, R50; logs 22, 23). -/

namespace Sys2Proof.Machine

/-! ## Payload validators: arguments to payload or error (R170) -/

/-- The payload if it fits the one-byte length field, else `InvalidArgument` (R73, R181; log 11). -/
def fitPayload (p : List Byte) : Except CatalogError (List Byte) :=
  if p.length ≤ Config.lenMax then .ok p else .error (.invalidArgument (.payloadLength p.length))

/-- Write UID: "raw UID bytes" (R172). -/
def writeUidPayload (uid : List Byte) : Except CatalogError (List Byte) := fitPayload uid

/-- Read UID: empty (R171). -/
def readUidPayload : Except CatalogError (List Byte) := .ok []

/-- Read Sector: "[sector, block, group] + password" (R173). -/
def readSectorPayload (sector block group : Byte) (password : List Byte) :
    Except CatalogError (List Byte) :=
  if password.length ≠ Config.passwordLen then
    .error (.invalidArgument (.passwordLength password.length))
  else fitPayload ([sector, block, group] ++ password)

/-- Write Sector: "[sector, block, group] + password + sectorData" (R174). -/
def writeSectorPayload (sector block group : Byte) (password sectorData : List Byte) :
    Except CatalogError (List Byte) :=
  if password.length ≠ Config.passwordLen then
    .error (.invalidArgument (.passwordLength password.length))
  else fitPayload ([sector, block, group] ++ password ++ sectorData)

/-- Change Password: "[sector, group] + oldPassword + newPassword"; the old one is tested first (R175; log 13). -/
def changePasswordPayload (sector group : Byte) (oldPassword newPassword : List Byte) :
    Except CatalogError (List Byte) :=
  if oldPassword.length ≠ Config.passwordLen then
    .error (.invalidArgument (.oldPasswordLength oldPassword.length))
  else if newPassword.length ≠ Config.passwordLen then
    .error (.invalidArgument (.newPasswordLength newPassword.length))
  else fitPayload ([sector, group] ++ oldPassword ++ newPassword)

/-- Read ID: empty (R176). -/
def readIdPayload : Except CatalogError (List Byte) := .ok []

/-- Write Chip ID: "[len(id)] + id" (R177). -/
def writeChipIdPayload (id : List Byte) : Except CatalogError (List Byte) :=
  fitPayload ([BitVec.ofNat 8 id.length] ++ id)

/-- Read All Blocks: "[group] + password"; the group is tested first (R178; log 13). -/
def readAllBlocksPayload (group : Byte) (password : List Byte) : Except CatalogError (List Byte) :=
  if group ∉ Config.readAllGroups then .error (.invalidArgument (.groupRange group))
  else if password.length ≠ Config.passwordLen then
    .error (.invalidArgument (.passwordLength password.length))
  else fitPayload ([group] ++ password)

/-- Read Contactless UID: empty (R179). -/
def readContactlessUidPayload : Except CatalogError (List Byte) := .ok []

/-- Write Tag Sector: no payload shape; "must fail explicitly with `NotImplemented`" (R180). -/
def writeTagSectorPayload : Except CatalogError (List Byte) := .error .notImplemented

/-! ## The calls -/

/-- A call with its validated payload. With an error, the error is returned and no operation is issued
(R181). Otherwise the request is issued to the builder (R182), unless one is in flight already: then the call
is turned away and nothing is issued, since the catalog "must keep one request in flight" (R187; log 20). -/
def catalogCall (addr cmd : Byte) (args : Except CatalogError (List Byte)) (s : State) :
    Host.Outcome State Fault Refusal :=
  match args with
  | .ok p =>
    if s.request = .idle then
      .next (((s.setTxb (s.txb.sendFrame addr cmd p)).setRequest .sent).setCatalog .sent)
    else .next (s.setCatalog .turnedAway)
  | .error e => .next (s.setCatalog (.rejected e))

/-- Write UID (R172). -/
def execCmdWriteUid (addr : Byte) (uid : List Byte) (s : State) : Host.Outcome State Fault Refusal :=
  catalogCall addr 0x11 (writeUidPayload uid) s

/-- Read UID (R171). -/
def execCmdReadUid (addr : Byte) (s : State) : Host.Outcome State Fault Refusal :=
  catalogCall addr 0x12 readUidPayload s

/-- Read Sector (R173). -/
def execCmdReadSector (addr sector block group : Byte) (password : List Byte) (s : State) :
    Host.Outcome State Fault Refusal :=
  catalogCall addr 0x12 (readSectorPayload sector block group password) s

/-- Write Sector (R174). -/
def execCmdWriteSector (addr sector block group : Byte) (password sectorData : List Byte) (s : State) :
    Host.Outcome State Fault Refusal :=
  catalogCall addr 0x14 (writeSectorPayload sector block group password sectorData) s

/-- Change Password (R175). -/
def execCmdChangePassword (addr sector group : Byte) (oldPassword newPassword : List Byte) (s : State) :
    Host.Outcome State Fault Refusal :=
  catalogCall addr 0x14 (changePasswordPayload sector group oldPassword newPassword) s

/-- Read ID (R176). -/
def execCmdReadId (addr : Byte) (s : State) : Host.Outcome State Fault Refusal :=
  catalogCall addr 0x15 readIdPayload s

/-- Write Chip ID (R177). -/
def execCmdWriteChipId (addr : Byte) (id : List Byte) (s : State) : Host.Outcome State Fault Refusal :=
  catalogCall addr 0x16 (writeChipIdPayload id) s

/-- Read All Blocks (R178). -/
def execCmdReadAllBlocks (addr group : Byte) (password : List Byte) (s : State) :
    Host.Outcome State Fault Refusal :=
  catalogCall addr 0x17 (readAllBlocksPayload group password) s

/-- Read Contactless UID (R179). -/
def execCmdReadContactlessUid (addr : Byte) (s : State) : Host.Outcome State Fault Refusal :=
  catalogCall addr 0x19 readContactlessUidPayload s

/-- Write Tag Sector: `NotImplemented`, whatever the raw bytes; no operation is issued (R180). -/
def execCmdWriteTagSector (addr : Byte) (_raw : List Byte) (s : State) : Host.Outcome State Fault Refusal :=
  catalogCall addr 0x21 writeTagSectorPayload s

/-! ## The reply -/

/-- The request in flight ends and its call returns `r`: "terminal for the single call" (R182). -/
def State.answer (s : State) (r : Except CatalogError (List Byte)) : State :=
  (s.setRequest .idle).setCatalog (.returned r)

/-- With `got` read of the payload of a good reply: the next PAYRD is awaited while there is more, else the
call returns the payload (R182). -/
def State.awaitPayload (s : State) (got : List Byte) : State :=
  if got.length < s.rxv.plen.toNat then s.setRequest (.reading got) else s.answer (.ok got)

/-- The request in flight ends with V_OPFAILED and its call returns `OperationFailed` (R182, R186). Its raw
response stands in RXBUF (R139, R203); that the error holds none of it yet is a DESIGN CHOICE (log 23). -/
def State.failOperation (s : State) : State := (s.setRequest .idle).setCatalog (.opFailed [])

/-- The catalog reads RX_VERDICT of the validator that was cleared for its reply (R182, R219): on V_OK it goes
on to read the payload, on a failure the call returns the error that the verdict names (R186), else the
catalog goes on listening. -/
def State.collect (s : State) : State :=
  match s.rxv.verdict with
  | .vNone => s.setRequest .listening
  | .vOk => s.awaitPayload []
  | .vMalformed => s.answer (.error .malformedFrame)
  | .vChecksum => s.answer (.error .checksumMismatch)
  | .vHeader => s.answer (.error .invalidHeader)
  | .vOpFailed => s.failOperation
  | .vUnexpected => s.answer (.error .unexpectedStatus)

/-- `PAYRD i` has run while the payload is read: if it is the next byte's and was allowed, the catalog takes
RD_DATA (R37, R130, R182); any other PAYRD is not the catalog's (log 22). -/
def State.takeByte (s : State) (got : List Byte) (i : Byte) : State :=
  if s.rxv.rdOk = true ∧ i.toNat = got.length then s.awaitPayload (got ++ [s.rxv.rdData]) else s

/-- A new buffer was opened before the payload was read (log 22). -/
def State.loseReply (s : State) : State := (s.setRequest .idle).setCatalog .replyLost

/-- `RXRD k` has run on the buffer of an `OperationFailed`: if it was allowed, RD_DATA is byte `k` of the raw
response (R37, R129). Which bytes are read, and in which order, is the host's to choose (R226); that the error
gathers them as they are read is a DESIGN CHOICE (log 23). -/
def State.takeRaw (s : State) (raw : Memory) (k : BufAddr) : State :=
  if s.rxv.rdOk = true then s.setCatalog (.opFailed (raw.write k.toNat s.rxv.rdData)) else s

/-- The buffer of an `OperationFailed` was cleared: the error keeps the raw bytes that were read (R226). -/
def State.closeRaw (s : State) (raw : Memory) : State :=
  s.setCatalog (.returned (.error (.operationFailed raw)))

/-- What an item that has run is to the catalog. -/
inductive Notice where
  /-- it opened a new buffer (R222) -/
  | opened
  /-- it was `PAYRD i` (R130) -/
  | payrd (i : Byte)
  /-- it was `RXRD k` (R129) -/
  | rxrd (k : BufAddr)
  /-- anything else -/
  | other
deriving DecidableEq, Repr

/-- What the catalog does after an item has run while no request is in flight: it takes the raw bytes of the
last `OperationFailed` as RXRD reads them (log 23), and nothing else. -/
def State.watchFailed (s : State) (n : Notice) : State :=
  match s.catalog with
  | .noCall => s
  | .sent => s
  | .turnedAway => s
  | .rejected _ => s
  | .returned _ => s
  | .opFailed raw =>
    match n with
    | .opened => s.closeRaw raw
    | .payrd _ => s
    | .rxrd k => s.takeRaw raw k
    | .other => s
  | .replyLost => s

/-- What the catalog does after an item has run. A verdict that stood before the item that opened its buffer
belongs to an earlier one and is not looked at (R182, R187; log 8). -/
def State.watch (s : State) (n : Notice) : State :=
  match s.request with
  | .idle => s.watchFailed n
  | .sent =>
    match n with
    | .opened => s.collect
    | .payrd _ => s
    | .rxrd _ => s
    | .other => s
  | .listening => s.collect
  | .reading got =>
    match n with
    | .opened => s.loseReply
    | .payrd i => s.takeByte got i
    | .rxrd _ => s
    | .other => s

/-- What an instruction is to the catalog. A new buffer is opened by RXCLR and reset (R222), and by a buffer
presented whole, which begins with an RXCLR (R87). -/
def notice : Instr → Notice
  | .nop => .other
  | .reset => .opened
  | .xclr => .other
  | .xabs _ => .other
  | .txbegin _ _ _ => .other
  | .txpay _ => .other
  | .txclr => .other
  | .rxclr => .opened
  | .rxb _ => .other
  | .rxend => .other
  | .rxrd k => .rxrd k
  | .payrd i => .payrd i
  | .pack _ _ => .other
  | .reservedD => .other
  | .reservedE => .other
  | .reservedF => .other
  | .cmdWriteUid _ _ => .other
  | .cmdReadUid _ => .other
  | .cmdReadSector _ _ _ _ _ => .other
  | .cmdWriteSector _ _ _ _ _ _ => .other
  | .cmdChangePassword _ _ _ _ _ => .other
  | .cmdReadId _ => .other
  | .cmdWriteChipId _ _ => .other
  | .cmdReadAllBlocks _ _ _ => .other
  | .cmdReadContactlessUid _ => .other
  | .cmdWriteTagSector _ _ => .other
  | .statusOk _ _ => .opened
  | .statusFail _ _ => .opened

/-- An outcome, followed by what the catalog does. -/
def watched (n : Notice) (o : Host.Outcome State Fault Refusal) : Host.Outcome State Fault Refusal :=
  match o with
  | .next s => .next (s.watch n)
  | .fault f => .fault f
  | .refused r => .refused r

/-- The transport's report reaches the host: the call in flight returns it unchanged (R186); the block is
not told (R198). With no call in flight there is none to return it (log 21). -/
def State.transportFailed (s : State) (e : TransportError) : State :=
  match s.request with
  | .idle => s
  | .sent => s.answer (.error (.transportError e))
  | .listening => s.answer (.error (.transportError e))
  | .reading _ => s.answer (.error (.transportError e))

/-- What the catalog has returned to its caller (R182, R186): the error of a rejected call at once, the reply
or the transport's error once the request has ended; nothing while it is in flight. The raw response of an
`OperationFailed` is as much of it as RXRD has read (log 23). -/
def catalogReturn (s : State) : Option (Except CatalogError (List Byte)) :=
  match s.catalog with
  | .noCall => none
  | .sent => none
  | .turnedAway => none
  | .rejected e => some (.error e)
  | .returned r => some r
  | .opFailed raw => some (.error (.operationFailed raw))
  | .replyLost => none

end Sys2Proof.Machine

namespace Sys2Proof

open Machine

/-! ## A call by its name -/

/-- The address byte of a named call (R184). -/
def NamedCall.addr : NamedCall → Byte
  | .writeUid addr _ => addr
  | .readUid addr => addr
  | .readSector addr _ _ _ _ => addr
  | .writeSector addr _ _ _ _ _ => addr
  | .changePassword addr _ _ _ _ => addr
  | .readId addr => addr
  | .writeChipId addr _ => addr
  | .readAllBlocks addr _ _ => addr
  | .readContactlessUid addr => addr
  | .writeTagSector addr _ => addr

/-- The command byte of a named call (R183). -/
def NamedCall.command : NamedCall → Byte
  | .writeUid _ _ => 0x11
  | .readUid _ => 0x12
  | .readSector _ _ _ _ _ => 0x12
  | .writeSector _ _ _ _ _ _ => 0x14
  | .changePassword _ _ _ _ _ => 0x14
  | .readId _ => 0x15
  | .writeChipId _ _ => 0x16
  | .readAllBlocks _ _ _ => 0x17
  | .readContactlessUid _ => 0x19
  | .writeTagSector _ _ => 0x21

/-- The payload that a named call sends, or the error it returns (R170). -/
def NamedCall.payload : NamedCall → Except CatalogError (List Byte)
  | .writeUid _ uid => writeUidPayload uid
  | .readUid _ => readUidPayload
  | .readSector _ sector block group password => readSectorPayload sector block group password
  | .writeSector _ sector block group password sectorData =>
      writeSectorPayload sector block group password sectorData
  | .changePassword _ sector group oldPassword newPassword =>
      changePasswordPayload sector group oldPassword newPassword
  | .readId _ => readIdPayload
  | .writeChipId _ id => writeChipIdPayload id
  | .readAllBlocks _ group password => readAllBlocksPayload group password
  | .readContactlessUid _ => readContactlessUidPayload
  | .writeTagSector _ _ => writeTagSectorPayload

end Sys2Proof
end

