-- ==== Sys2Proof/Machine/Chk.lean ====
section
/-! DEFINITION. The CHK unit: XCLR and XABS (spec/40_checksum.md). -/

namespace Sys2Proof.Machine

/-- `X_ACC <- 0x00` (R102). -/
def Chk.clear (_ : Chk) : Chk := { acc := 0x00 }

/-- `X_ACC <- X_ACC ^ d` (R103). -/
def Chk.add (c : Chk) (d : Byte) : Chk := { acc := absorb c.acc d }

/-- `XCLR` (R102). -/
def execXclr (s : State) : Host.Outcome State Fault Refusal := .next (s.setChk s.chk.clear)

/-- `XABS d` (R103). -/
def execXabs (d : Byte) (s : State) : Host.Outcome State Fault Refusal := .next (s.setChk (s.chk.add d))

end Sys2Proof.Machine
end

