-- ==== Sys2Proof/Machine/Cnp.lean ====
section
/-! DEFINITION. The CNP unit: PACK and the function it computes (spec/43_card_packer.md). The two
doubtful literals come from the configuration (R157). -/

namespace Sys2Proof.Machine

/-- The base bytes (R152). -/
def packBase (c : PackConfig) (f : Byte) (id : Half) : CardBytes :=
  { o0 := Config.packKey
    o1 := Config.packStart ^^^ bitByte (f.getLsbD 7)
    o2 := trunc8 (wide f <<< 1) ^^^ bitByte (id.getLsbD c.idBit)
    o3 := trunc8 (id >>> 7)
    o4 := trunc8 (id <<< 1) }

/-- The even-parity pattern E: f in bits 15..8, `id[15:12]` in bits 7..4 (R153). -/
def evenPattern (f : Byte) (id : Half) : Half := (wide f <<< 8) + ((id >>> 8) &&& 0xF0)

/-- The odd-parity pattern O: `id[11:8]` in bits 11..8 and the configured low byte (R154). -/
def oddPattern (c : PackConfig) (id : Half) (o3 : Byte) : Half :=
  (((id >>> 8) &&& 0x0F) <<< 8) +
    (match c.oddLow with
     | .byte3 => wide o3
     | .idLow => id &&& 0xFF)

/-- The even-parity fold: if `parity(E) = 1`, flip bit 1 of byte 1 (R153). -/
def foldEven (f : Byte) (id : Half) (o : CardBytes) : CardBytes :=
  if parity (evenPattern f id) then { o with o1 := o.o1 ^^^ 0x02 } else o

/-- The odd-parity fold: if `parity(O) = 0`, flip bit 0 of byte 4 (R154). -/
def foldOdd (c : PackConfig) (id : Half) (o : CardBytes) : CardBytes :=
  if parity (oddPattern c id o.o3) then o else { o with o4 := o.o4 ^^^ 0x01 }

/-- The three steps of R151 under a configuration of the literals. -/
def packWith (c : PackConfig) (f : Byte) (id : Half) : CardBytes :=
  foldOdd c id (foldEven f id (packBase c f id))

/-- `pack(f, id)` at the spec's literals (R151, R157). -/
def pack (f : Byte) (id : Half) : CardBytes := packWith Config.pack f id

/-- `PACK f, id` (R150). -/
def execPack (f : Byte) (id : Half) (s : State) : Host.Outcome State Fault Refusal :=
  .next (s.setCnp { out := pack f id, valid := true })

end Sys2Proof.Machine
end

