-- ==== Sys2Proof/Machine/Inframe.lean ====
section
/-! DEFINITION. An inbound buffer presented whole, the pseudo-operation `DECODE` (R87): the rows
STATUS_OK and STATUS_FAIL of the opcode table (R88, R125) are the buffers whose first four bytes they
match. What the buffer is worth is the validator's to say (R197). -/

namespace Sys2Proof.Machine

/-- `DECODE b`: RXCLR, one RXB per byte, RXEND, in one step (R87; log 7). -/
def presentBuffer (b : List Byte) (s : State) : Host.Outcome State Fault Refusal :=
  s.withRxv (s.rxv.judge b)

/-- A buffer with status byte 0x81 (R125 step 4, after the size and checksum tests). -/
def execStatusOk (addr : Byte) (rest : List Byte) (s : State) : Host.Outcome State Fault Refusal :=
  presentBuffer ([Config.rxSync0, Config.rxSync1, addr, Config.stOk] ++ rest) s

/-- A buffer with status byte 0x80 (R125 step 5, after the size and checksum tests). -/
def execStatusFail (addr : Byte) (rest : List Byte) (s : State) : Host.Outcome State Fault Refusal :=
  presentBuffer ([Config.rxSync0, Config.rxSync1, addr, Config.stFail] ++ rest) s

end Sys2Proof.Machine
end

