-- ==== Sys2Proof/Machine/System.lean ====
section
/-! DEFINITION. NOP, RESET and the reserved operation codes (spec/44_system.md). -/

namespace Sys2Proof.Machine

/-- `NOP`: no state changes (R165). -/
def execNop (s : State) : Host.Outcome State Fault Refusal := .next s

/-- `RESET`: every element of R20 takes its reset value (R166, R215). What the issuer presents after it
and the catalog's request and record are not elements of the block and stay (logs 1, 8). -/
def execReset (s : State) : Host.Outcome State Fault Refusal :=
  .next (((State.reset.setIssue s.issue).setRequest s.request).setCatalog s.catalog)

/-- Reserved code 0xD: OP_ERR gets 1, nothing else changes (R167; log 12). -/
def execReservedD (s : State) : Host.Outcome State Fault Refusal := .next s.refuseOp

/-- Reserved code 0xE: OP_ERR gets 1, nothing else changes (R167; log 12). -/
def execReservedE (s : State) : Host.Outcome State Fault Refusal := .next s.refuseOp

/-- Reserved code 0xF: OP_ERR gets 1, nothing else changes (R167; log 12). -/
def execReservedF (s : State) : Host.Outcome State Fault Refusal := .next s.refuseOp

end Sys2Proof.Machine
end

