-- ==== Sys2Proof/Machine/Dispatch.lean ====
section
/-! DEFINITION. One arm per row of spec/opcode_table.json (R84, R85, R88), in the table's order. -/

namespace Sys2Proof.Machine

def exec (i : Instr) (s : State) : Host.Outcome State Fault Refusal :=
  match i with
  | .nop => Sys2Proof.Machine.execNop s
  | .reset => Sys2Proof.Machine.execReset s
  | .xclr => Sys2Proof.Machine.execXclr s
  | .xabs d => Sys2Proof.Machine.execXabs d s
  | .txbegin addr cmd n => Sys2Proof.Machine.execTxbegin addr cmd n s
  | .txpay d => Sys2Proof.Machine.execTxpay d s
  | .txclr => Sys2Proof.Machine.execTxclr s
  | .rxclr => Sys2Proof.Machine.execRxclr s
  | .rxb d => Sys2Proof.Machine.execRxb d s
  | .rxend => Sys2Proof.Machine.execRxend s
  | .rxrd k => Sys2Proof.Machine.execRxrd k s
  | .payrd idx => Sys2Proof.Machine.execPayrd idx s
  | .pack f id => Sys2Proof.Machine.execPack f id s
  | .reservedD => Sys2Proof.Machine.execReservedD s
  | .reservedE => Sys2Proof.Machine.execReservedE s
  | .reservedF => Sys2Proof.Machine.execReservedF s
  | .cmdWriteUid addr uid => Sys2Proof.Machine.execCmdWriteUid addr uid s
  | .cmdReadUid addr => Sys2Proof.Machine.execCmdReadUid addr s
  | .cmdReadSector addr sector block group password => Sys2Proof.Machine.execCmdReadSector addr sector block group password s
  | .cmdWriteSector addr sector block group password sectorData => Sys2Proof.Machine.execCmdWriteSector addr sector block group password sectorData s
  | .cmdChangePassword addr sector group oldPassword newPassword => Sys2Proof.Machine.execCmdChangePassword addr sector group oldPassword newPassword s
  | .cmdReadId addr => Sys2Proof.Machine.execCmdReadId addr s
  | .cmdWriteChipId addr id => Sys2Proof.Machine.execCmdWriteChipId addr id s
  | .cmdReadAllBlocks addr group password => Sys2Proof.Machine.execCmdReadAllBlocks addr group password s
  | .cmdReadContactlessUid addr => Sys2Proof.Machine.execCmdReadContactlessUid addr s
  | .cmdWriteTagSector addr raw => Sys2Proof.Machine.execCmdWriteTagSector addr raw s
  | .statusOk addr rest => Sys2Proof.Machine.execStatusOk addr rest s
  | .statusFail addr rest => Sys2Proof.Machine.execStatusFail addr rest s

end Sys2Proof.Machine
end

