-- ==== Sys2Proof/Machine/Fetch.lean ====
section
/-! DEFINITION. Where the machine's next operation comes from. The block fetches nothing (R41, R62):
the host and the transport present items, which stand in `State.issue` (log 1). -/

namespace Sys2Proof.Machine

/-- The next presented item and the state in which it runs; `none` when nothing is presented. -/
def State.fetch (s : State) : Option (Issue × State) :=
  match s.issue with
  | [] => none
  | item :: rest => some (item, s.setIssue rest)

/-- With nothing presented the block "simply holds its state" (R208). -/
def holdState (s : State) : Host.Outcome State Fault Refusal := .next s

/-- An item that is no instruction of the table: an inbound buffer that matches neither status row is
judged like any other (R125, R87); a report of the transport goes to the catalog (R198); bytes that are no
catalog call's frame are refused (log 6). -/
def runRejected (item : Issue) (e : DecodeError) (s : State) : Host.Outcome State Fault Refusal :=
  match item with
  | .buffer b => watched .opened (presentBuffer b s)
  | .transportFailed report => .next (s.transportFailed report)
  | .call _ => .refused (.badCall e)
  | .word _ => .refused (.badCall e)
  | .invoke _ => .refused (.badCall e)

/-- `s` with `item` presented next, before what was already presented. -/
def State.present (s : State) (item : Issue) : State := s.setIssue (item :: s.issue)

end Sys2Proof.Machine
end

