-- ==== Sys2Proof/Machine/Step.lean ====
section
/-! DEFINITION. One step: the next presented item is taken, decoded and run (R6, R59; log 1), and the
catalog looks whether its reply is there (R182; log 8). -/

namespace Sys2Proof.Machine

/-- One atomic operation of the stream (R6, R16, R59); with nothing presented the state holds (R208). -/
def step (s : State) : Host.Outcome State Fault Refusal :=
  match s.fetch with
  | none => holdState s
  | some (item, t) =>
    match decode item with
    | .instr i => watched (notice i) (exec i t)
    | .rejected e => runRejected item e t

/-- `s` with the table word `w` of `nbits` bits presented next (logs 1, 3). -/
def State.withFetchWord (s : State) (nbits w : Nat) : State := s.present (tableIssue nbits w)

end Sys2Proof.Machine
end

