-- ==== Sys2Proof/Machine/Pseudo.lean ====
section
/-! DEFINITION. The pseudo-operations as lists of operations (R87). -/

namespace Sys2Proof.Machine

/-- `CHECKSUM [d0, ..., dk-1]` (R87). -/
def checksumOps (l : List Byte) : List Instr := .xclr :: l.map .xabs

/-- `ENCODE addr, cmd, [p0, ..., pn-1]` (R87). -/
def encodeOps (addr cmd : Byte) (p : List Byte) : List Instr :=
  .txbegin addr cmd (BitVec.ofNat 8 p.length) :: p.map .txpay

/-- `DECODE [d0, ..., dk-1]` (R87). -/
def decodeOps (b : List Byte) : List Instr := .rxclr :: b.map .rxb ++ [.rxend]

/-- `PAYRD 0` to `PAYRD n-1`, the reads of a payload of `n` bytes (R130, R182). -/
def payloadReads (n : Nat) : List Instr := (List.range n).map (fun i => .payrd (BitVec.ofNat 8 i))

/-- `RXRD k` for each address of `ks`, reads of the raw bytes of a closed buffer (R129, R226). -/
def rawReads (ks : List BufAddr) : List Instr := ks.map .rxrd

end Sys2Proof.Machine
end

