-- ==== Sys2Proof/Safety.lean ====
section
/-! DEFINITION. The terms in which claims speak: lists of operations, which unit an operation belongs to,
the invariants of spec/10_state.md R47, and what the validator has reported. -/

namespace Sys2Proof.Machine

/-! ## Sequences of operations -/

/-- Go on with `f` from a next state; a fault or a refusal stays. -/
def andThen (o : Host.Outcome State Fault Refusal) (f : State → Host.Outcome State Fault Refusal) :
    Host.Outcome State Fault Refusal :=
  match o with
  | .next s => f s
  | .fault r => .fault r
  | .refused r => .refused r

/-- The operations of `l` in order (R59, R86). -/
def execList : List Instr → State → Host.Outcome State Fault Refusal
  | [], s => .next s
  | i :: l, s => andThen (exec i s) (execList l)

/-- The instructions of `l` in order, the catalog looking after each one whether its reply is there, as a
step does (R59, R182; log 8). -/
def runList : List Instr → State → Host.Outcome State Fault Refusal
  | [], s => .next s
  | i :: l, s => andThen (watched (notice i) (exec i s)) (runList l)

/-! ## Units (R1, R20, R59) -/

/-- The part of the block an operation writes (the "unit" column of R84). -/
inductive Part where
  /-- no part: NOP -/
  | nothing
  /-- CHK -/
  | chk
  /-- TXB -/
  | txb
  /-- RXV -/
  | rxv
  /-- CNP -/
  | cnp
  /-- the whole-block flag OP_ERR: the reserved codes -/
  | flag
  /-- every unit: RESET -/
  | all
deriving DecidableEq, Repr

/-- The part of the block an instruction writes (R84); a catalog call issues operations to TXB (R182),
an inbound buffer is presented to RXV (R87). -/
def part : Instr → Part
  | .nop => .nothing
  | .reset => .all
  | .xclr => .chk
  | .xabs _ => .chk
  | .txbegin _ _ _ => .txb
  | .txpay _ => .txb
  | .txclr => .txb
  | .rxclr => .rxv
  | .rxb _ => .rxv
  | .rxend => .rxv
  | .rxrd _ => .rxv
  | .payrd _ => .rxv
  | .pack _ _ => .cnp
  | .reservedD => .flag
  | .reservedE => .flag
  | .reservedF => .flag
  | .cmdWriteUid _ _ => .txb
  | .cmdReadUid _ => .txb
  | .cmdReadSector _ _ _ _ _ => .txb
  | .cmdWriteSector _ _ _ _ _ _ => .txb
  | .cmdChangePassword _ _ _ _ _ => .txb
  | .cmdReadId _ => .txb
  | .cmdWriteChipId _ _ => .txb
  | .cmdReadAllBlocks _ _ _ => .txb
  | .cmdReadContactlessUid _ => .txb
  | .cmdWriteTagSector _ _ => .txb
  | .statusOk _ _ => .rxv
  | .statusFail _ _ => .rxv

/-- The instruction may write TXB. -/
def touchesTxb (i : Instr) : Bool := part i == .txb || part i == .all

/-- The instruction may write CHK. -/
def touchesChk (i : Instr) : Bool := part i == .chk || part i == .all

/-- RXRD or PAYRD: the operations that write the result latch and nothing else (R56, R129, R130). -/
def isRead (i : Instr) : Bool :=
  match i with
  | .rxrd _ => true
  | .payrd _ => true
  | _ => false

/-- One of the nine catalog calls that send a frame when their precondition holds (R171 to R179). -/
def sendsFrame : Instr → Bool
  | .nop => false
  | .reset => false
  | .xclr => false
  | .xabs _ => false
  | .txbegin _ _ _ => false
  | .txpay _ => false
  | .txclr => false
  | .rxclr => false
  | .rxb _ => false
  | .rxend => false
  | .rxrd _ => false
  | .payrd _ => false
  | .pack _ _ => false
  | .reservedD => false
  | .reservedE => false
  | .reservedF => false
  | .cmdWriteUid _ _ => true
  | .cmdReadUid _ => true
  | .cmdReadSector _ _ _ _ _ => true
  | .cmdWriteSector _ _ _ _ _ _ => true
  | .cmdChangePassword _ _ _ _ _ => true
  | .cmdReadId _ => true
  | .cmdWriteChipId _ _ => true
  | .cmdReadAllBlocks _ _ _ => true
  | .cmdReadContactlessUid _ => true
  | .cmdWriteTagSector _ _ => false
  | .statusOk _ _ => false
  | .statusFail _ _ => false

/-- A catalog call: one that can send a frame, or Write Tag Sector, which never does (R180). -/
def isCall (i : Instr) : Bool :=
  sendsFrame i || match i with
    | .cmdWriteTagSector _ _ => true
    | _ => false

/-- The instruction may write the validator outside its result latch. -/
def touchesBuffer (i : Instr) : Bool := (part i == .rxv && !isRead i) || part i == .all

/-! ## What the validator has reported -/

/-- The verdict that reports an outcome of `decode` (R132, R190). -/
def DecodeOutcome.verdict : DecodeOutcome → Verdict
  | .success _ => .vOk
  | .malformedFrame => .vMalformed
  | .checksumMismatch => .vChecksum
  | .invalidHeader => .vHeader
  | .operationFailed _ => .vOpFailed
  | .unexpectedStatus => .vUnexpected

/-- The validator holds the buffer `b`: the first 261 bytes are retained in order and counted, the
overflow flag tells whether there were more, and the accumulator sums every byte from index 3 on
(R22, R23, R24, R25). -/
structure Rxv.Holds (r : Rxv) (b : List Byte) : Prop where
  cnt_eq : r.cnt.toNat = min b.length Config.rxbufDepth
  ovf_eq : r.ovf = decide (Config.rxbufDepth < b.length)
  read_eq : ∀ k, k < Config.rxbufDepth → r.buf.read k = b[k]?
  unlisted : ∀ k, Config.rxbufDepth ≤ k → r.buf.read k = none
  acc_eq : r.acc = xor8 (b.drop Config.rxCkFirst)

/-- The validator has closed the buffer `b` and reports the outcome of `decode(b)` (R132): the verdict, and
on success the payload with its length. -/
structure Rxv.Reports (r : Rxv) (b : List Byte) : Prop where
  holds : r.Holds b
  closed : r.done = true
  verdict_eq : r.verdict = (frameDecode b).verdict
  payload_eq : ∀ p, frameDecode b = .success p → r.payload = p ∧ r.plen.toNat = p.length
  failure_len : r.verdict ≠ .vOk → r.plen = 0x00

/-! ## Invariants -/

/-- What every reachable validator satisfies: R47 items (1) to (6) and (9), and what they rest on: RXBUF
lists exactly the locations below RX_CNT in rising order (R24, R52), and while nothing overflowed
RX_ACC is the checksum of the retained bytes from index 3 on (R22). -/
structure Rxv.Inv (r : Rxv) : Prop where
  listed : r.buf.map Prod.fst = List.range r.cnt.toNat
  cnt_le : r.cnt.toNat ≤ Config.rxbufDepth
  ovf_full : r.ovf = true → r.cnt.toNat = Config.rxbufDepth
  acc_eq : r.ovf = false → r.acc = xor8 (r.buf.bytes.drop Config.rxCkFirst)
  open_none : r.done = false → r.verdict = .vNone ∧ r.plen = 0x00
  closed_some : r.done = true → r.verdict ≠ .vNone
  plen_ok : r.plen ≠ 0x00 → r.verdict = .vOk
  ok_facts : r.verdict = .vOk →
    Config.frameFixed ≤ r.cnt.toNat ∧ r.acc = 0x00 ∧ r.buf.read 0 = some Config.rxSync0
      ∧ r.buf.read 1 = some Config.rxSync1 ∧ r.buf.read 3 = some Config.stOk
      ∧ r.buf.read 4 = some r.plen ∧ Config.rxPayFirst + r.plen.toNat ≤ r.cnt.toNat

/-- R47 item (7). -/
structure Txb.Inv (t : Txb) : Prop where
  busy_iff : t.busy = false ↔ t.rem = 0

/-- R47 item (8). -/
structure Cnp.Inv (c : Cnp) : Prop where
  packed : c.valid = true →
    c.out.o0 = Config.packKey ∧ c.out.o1.extractLsb' 3 5 = 0 ∧ c.out.o1.getLsbD 2 = true

/-- The invariant of the machine. `rxv`, `txb` and `cnp` are over every element R47 speaks of. The other three
clauses are about the catalog's `request` and `catalog`, fields that are the model's choice (logs 8, 22, 23):
while it listens for a reply there is no verdict yet, while it reads a payload the reply is good and what it
has is a proper prefix of it, and what has been read of a failed reply agrees with the buffer (R182, R187). -/
structure State.Inv (s : State) : Prop where
  rxv : s.rxv.Inv
  txb : s.txb.Inv
  cnp : s.cnp.Inv
  listening_open : s.request = .listening → s.rxv.done = false
  reading_prefix : ∀ got, s.request = .reading got →
    s.rxv.done = true ∧ s.rxv.verdict = .vOk ∧ got.length < s.rxv.plen.toNat
      ∧ got = s.rxv.payload.take got.length
  raw_read : ∀ raw, s.catalog = .opFailed raw →
    s.request = .idle ∧ s.rxv.done = true ∧ s.rxv.verdict = .vOpFailed ∧ raw.wf = true
      ∧ ∀ k v, raw.read k = some v → s.rxv.buf.read k = some v

/-- The nine items of R47, each as the rule states it. -/
structure ListedInvariants (s : State) : Prop where
  item1 : s.rxv.cnt.toNat ≤ 261
  item2 : s.rxv.ovf = true → s.rxv.cnt.toNat = 261
  item3 : s.rxv.done = false → s.rxv.verdict = .vNone ∧ s.rxv.plen = 0x00
  item4 : s.rxv.done = true → 1 ≤ s.rxv.verdict.code.toNat ∧ s.rxv.verdict.code.toNat ≤ 6
  item5 : s.rxv.plen ≠ 0x00 → s.rxv.verdict = .vOk
  item6 : s.rxv.verdict = .vOk →
    6 ≤ s.rxv.cnt.toNat ∧ s.rxv.acc = 0x00 ∧ s.rxv.buf.read 0 = some 0xCD
      ∧ s.rxv.buf.read 1 = some 0xDC ∧ s.rxv.buf.read 3 = some 0x81
      ∧ s.rxv.buf.read 4 = some s.rxv.plen ∧ 5 + s.rxv.plen.toNat ≤ s.rxv.cnt.toNat
  item7 : s.txb.busy = false ↔ s.txb.rem = 0
  item8 : s.cnp.valid = true →
    s.cnp.out.o0 = 0x20 ∧ s.cnp.out.o1.extractLsb' 3 5 = 0 ∧ s.cnp.out.o1.getLsbD 2 = true
  item9 : s.rxv.cnt.toNat ≤ 3 → s.rxv.acc = 0x00

end Sys2Proof.Machine
end

