-- ==== Sys2Proof/Certificates/Slice0/Obligations.lean ====
section
/-! DEFINITION. The statements for the provers, in the order of OBLIGATIONS.json. -/

open Sys2Proof Sys2Proof.Machine

/-- A step runs the decoded instruction, then the catalog looks for its reply (the stream and the look are
the model's choice, logs 1, 8, 23) (R16, R59, R6, R182). -/
def Obligations.StepRunsPresentedInstruction : Prop :=
  ∀ (s : State) (item : Issue) (rest : List Issue) (i : Instr),
    s.issue = item :: rest → decode item = .instr i →
      step s = watched (notice i) (exec i (s.setIssue rest))
      ∧ (∀ f, exec i (s.setIssue rest) = .fault f → step s = .fault f)
      ∧ (∀ r, exec i (s.setIssue rest) = .refused r → step s = .refused r)
      ∧ (∀ t, exec i (s.setIssue rest) = .next t →
          ∃ q c, step s = .next ((t.setRequest q).setCatalog c) ∧ (t.request = .idle → (∀ raw, t.catalog ≠ .opFailed raw) → step s = .next t))

/-- With nothing presented a step holds the state (a step without an operation is the model's choice, log 1)
(R208). -/
def Obligations.IdleStepHoldsState : Prop :=
  ∀ s : State, s.issue = [] → step s = .next s

/-- A presented list of instructions runs in its order (the stream and the catalog's look are the model's
choice, logs 1, 8) (R59, R86). -/
def Obligations.PresentedStreamRunsInOrder : Prop :=
  ∀ (l : List Instr) (s : State) (rest : List Issue),
    (∀ i ∈ l, i.wellFormed = true) →
    Host.Core.run Sys2Proof.core l.length (s.setIssue (l.map encode ++ rest))
      = runList l (s.setIssue rest)

/-- Presenting any inbound buffer gives the outcome of decode (presenting it whole is the model's choice,
log 7; the catalog's look, logs 8, 23) (R87, R125, R132). -/
def Obligations.AnyPresentedBufferIsJudged : Prop :=
  ∀ (s : State) (b : List Byte) (rest : List Issue), s.issue = .buffer b :: rest →
    ∃ r : Rxv, step s = .next (((s.setIssue rest).setRxv r).watch .opened)
      ∧ (s.request = .idle → (∀ raw, s.catalog ≠ .opFailed raw) → step s = .next ((s.setIssue rest).setRxv r))
      ∧ r.Reports b ∧ r.drop = false
      ∧ r.rdData = s.rxv.rdData ∧ r.rdOk = s.rxv.rdOk

/-- Decoding the encoding of a well-formed instruction gives it back (R70, R71, R80, R82, R84, R88). -/
def Obligations.DecodeEncodeRoundTrip : Prop :=
  ∀ i : Instr, i.wellFormed = true → decode (encode i) = .instr i

/-- Words and frames written out in the spec decode to what they stand for (R84, R86, 95_test_vectors.md). -/
def Obligations.SampleEncodingsDecode : Prop :=
  decode (.word 0xC631C25) = .instr (.pack 0x63 0x1C25)
    ∧ decode (.word 0x4001606) = .instr (.txbegin 0x00 0x16 6)
    ∧ decode (.word 0xA00FE09) = .instr (.rxrd 9)
    ∧ decode (.word 0x8CD0000) = .instr (.rxb 0xCD)
    ∧ decode (.word 0xB040000) = .instr (.payrd 4)
    ∧ decode (.word 0x5AA0000) = .instr (.txpay 0xAA)
    ∧ decode (.word 0x3810000) = .instr (.xabs 0x81)
    ∧ decode (.word 0xFFFFFFF) = .instr .reservedF
    ∧ decode (.word 0x0ABCDEF) = .instr .nop
    ∧ decode (.call [0xAB, 0xBA, 0x00, 0x12, 0x09, 0x01, 0x00, 0x0A, 0xFF, 0xFF, 0xFF, 0xFF, 0xFF, 0xFF,
        0x10]) = .instr (.cmdReadSector 0x00 0x01 0x00 0x0A [0xFF, 0xFF, 0xFF, 0xFF, 0xFF, 0xFF])

/-- The mnemonic and the operands of an operation name that operation (R86, R82). -/
def Obligations.WrittenLinesReadBack : Prop :=
  ∀ (i : Instr) (w : OpWord), encode i = .word w → i ≠ .reservedD → i ≠ .reservedE → i ≠ .reservedF →
    assembleLine (mnemonic i) (writtenOperands i) = some i

/-- A field that an operation does not use is ignored (R81). -/
def Obligations.UnusedFieldsAreIgnored : Prop :=
  (∀ (op : BitVec 4) (a : Byte) (b : Half),
      op ∈ ([0x0, 0x1, 0x2, 0x6, 0x7, 0x9, 0xD, 0xE, 0xF] : List (BitVec 4)) →
        decode (.word (encodeWord op a b)) = decode (.word (encodeWord op 0 0)))
    ∧ (∀ (op : BitVec 4) (a a' : Byte) (b b' : Half),
      op ∈ ([0x3, 0x5, 0x8, 0xB] : List (BitVec 4)) →
        (decode (.word (encodeWord op a b)) = decode (.word (encodeWord op a' b')) ↔ a = a'))
    ∧ (∀ (a a' : Byte) (b b' : Half),
        (decode (.word (encodeWord 0xA a b)) = decode (.word (encodeWord 0xA a' b'))
          ↔ b.extractLsb' 0 9 = b'.extractLsb' 0 9))
    ∧ (∀ (op : BitVec 4) (a a' : Byte) (b b' : Half),
      op ∈ ([0x4, 0xC] : List (BitVec 4)) →
        (decode (.word (encodeWord op a b)) = decode (.word (encodeWord op a' b')) ↔ a = a' ∧ b = b'))

/-- Every 28-bit word is one of the thirteen operations or reserved, by match = op << 24, mask = 0xF000000
(R85). -/
def Obligations.EveryWordMatchesItsRow : Prop :=
  ∀ w : OpWord, ∃ i : Instr, decode (.word w) = .instr i
      ∧ w &&& 0xF000000 = BitVec.ofNat 28 (tableMatch i)
      ∧ tableMatch i = (opField w).toNat * 2 ^ 24
      ∧ ((i = .reservedD ↔ opField w = 0xD) ∧ (i = .reservedE ↔ opField w = 0xE)
          ∧ (i = .reservedF ↔ opField w = 0xF))
      ∧ ((opField w = 0xD ∨ opField w = 0xE ∨ opField w = 0xF) →
          ∀ s : State, exec i s = .next { s with opErr := true })

/-- NOP leaves every element of the state unchanged (R165). -/
def Obligations.NopChangesNothing : Prop :=
  (∀ s : State, exec .nop s = .next s)
    ∧ ∀ w : OpWord, w.toNat < 0x1000000 → decode (.word w) = .instr .nop

/-- RESET puts every element of the block into its reset value (R166). -/
def Obligations.ResetOperationRestoresResetState : Prop :=
  ∀ s : State, ∃ t : State, exec .reset s = .next t
    ∧ t.chk = { acc := 0x00 }
    ∧ t.rxv.acc = 0x00 ∧ t.rxv.cnt = 0 ∧ t.rxv.ovf = false ∧ t.rxv.done = false
    ∧ t.rxv.verdict = .vNone ∧ t.rxv.plen = 0x00 ∧ t.rxv.drop = false
    ∧ t.rxv.rdData = 0x00 ∧ t.rxv.rdOk = false ∧ (∀ k, t.rxv.buf.read k = none)
    ∧ t.txb = { busy := false, rem := 0, acc := 0x00, err := false, out := [] }
    ∧ t.cnp = { out := { o0 := 0x00, o1 := 0x00, o2 := 0x00, o3 := 0x00, o4 := 0x00 }, valid := false }
    ∧ t.opErr = false

/-- After reset every element has its reset value and no location of RXBUF has a value (R46). -/
def Obligations.ResetStateValues : Prop :=
  (let s := State.reset
   s.chk.acc = 0x00 ∧ s.rxv.acc = 0x00 ∧ s.txb.acc = 0x00 ∧ s.rxv.cnt = 0 ∧ s.txb.rem = 0
       ∧ s.rxv.ovf = false ∧ s.rxv.done = false ∧ s.rxv.drop = false ∧ s.rxv.rdOk = false
       ∧ s.txb.busy = false ∧ s.txb.err = false ∧ s.cnp.valid = false ∧ s.opErr = false
       ∧ s.rxv.verdict = .vNone ∧ s.rxv.plen = 0x00
       ∧ s.cnp.out = { o0 := 0x00, o1 := 0x00, o2 := 0x00, o3 := 0x00, o4 := 0x00 }
       ∧ s.rxv.rdData = 0x00 ∧ s.txb.out = [] ∧ ∀ k, s.rxv.buf.read k = none)
    ∧ execList [.xclr, .rxclr, .txclr] State.reset = .next State.reset

/-- A reserved operation code sets OP_ERR and changes nothing else (R167). -/
def Obligations.ReservedCodesOnlySetOpErr : Prop :=
  (∀ s : State, exec .reservedD s = .next { s with opErr := true }
      ∧ exec .reservedE s = .next { s with opErr := true }
      ∧ exec .reservedF s = .next { s with opErr := true })
    ∧ (∀ (i : Instr) (s t : State), i ≠ .reset → exec i s = .next t → s.opErr = true → t.opErr = true)
    ∧ (∀ s t : State, exec .reset s = .next t → t.opErr = false)

/-- STAT packs the flags of the block (R43). -/
def Obligations.StatusViewPacksFlags : Prop :=
  (∀ s : State, s.stat.getLsbD 0 = s.rxv.done ∧ s.stat.extractLsb' 1 3 = s.rxv.verdict.code
      ∧ s.stat.getLsbD 4 = s.rxv.ovf ∧ s.stat.getLsbD 5 = s.rxv.drop ∧ s.stat.getLsbD 6 = s.txb.busy
      ∧ s.stat.getLsbD 7 = s.txb.err ∧ s.stat.getLsbD 8 = s.cnp.valid ∧ s.stat.getLsbD 9 = s.opErr
      ∧ s.stat.getLsbD 10 = s.rxv.rdOk ∧ s.stat.extractLsb' 11 5 = 0)
    ∧ State.reset.stat = 0x0000

/-- XCLR clears X_ACC, XABS d replaces it by X_ACC ^ d, and nothing else changes (R102, R103). -/
def Obligations.ChkOperationsUpdateXAcc : Prop :=
  (∀ s : State, exec .xclr s = .next { s with chk := { acc := 0x00 } })
    ∧ (∀ (d : Byte) (s : State), exec (.xabs d) s = .next { s with chk := { acc := s.chk.acc ^^^ d } })
    ∧ (∀ (d : Byte) (s : State), execList [.xabs d, .xabs d] s = .next s)
    ∧ (∀ s : State, exec (.xabs s.chk.acc) s = .next { s with chk := { acc := 0x00 } })

/-- XCLR and then XABS of the bytes of a sequence, in any order and interleaved with other units, leaves its
checksum (R87, R101, R104, R59). -/
def Obligations.ChecksumSequenceGivesXor8 : Prop :=
  (∀ (l : List Byte) (s : State),
      execList (checksumOps l) s = .next (s.setChk { acc := xor8 l }))
    ∧ ∀ (l l' : List Byte) (ops : List Instr) (s t : State),
      l'.Perm l → ops.filter touchesChk = checksumOps l' → execList ops s = .next t →
        t.chk.acc = xor8 l

/-- The laws of the XOR checksum (R104). -/
def Obligations.ChecksumLaws : Prop :=
  (∀ s t : List Byte, s.Perm t → xor8 s = xor8 t)
    ∧ (∀ s t : List Byte, xor8 (s ++ t) = xor8 s ^^^ xor8 t)
    ∧ (∀ (s : List Byte) (c : Byte), xor8 (s ++ [c]) = 0x00 ↔ c = xor8 s)
    ∧ (∀ s t : List Byte, xor8 (s ++ [0x00] ++ t) = xor8 (s ++ t))
    ∧ (∀ (s t u : List Byte) (d : Byte), xor8 (s ++ [d] ++ t ++ [d] ++ u) = xor8 (s ++ t ++ u))
    ∧ (∀ (s t : List Byte) (d e : Byte), d ≠ e → xor8 (s ++ [d] ++ t) ≠ xor8 (s ++ [e] ++ t))
    ∧ (∀ (s t u : List Byte) (d e x : Byte),
        xor8 (s ++ [d ^^^ x] ++ t ++ [e ^^^ x] ++ u) = xor8 (s ++ [d] ++ t ++ [e] ++ u))
    ∧ (∀ s : List Byte, (xor8 s).toNat < 256)

/-- TXBEGIN emits the header (and the checksum of an empty frame), or is refused inside a frame (R111). -/
def Obligations.TxbeginStartsOrIsRefused : Prop :=
  (∀ (addr cmd n : Byte) (s : State), s.txb.busy = false →
      exec (.txbegin addr cmd n) s = .next { s with txb :=
        { busy := decide (n ≠ 0), rem := n, acc := addr ^^^ cmd ^^^ n, err := s.txb.err
          out := s.txb.out ++ [0xAB, 0xBA, addr, cmd, n] ++ (if n = 0 then [addr ^^^ cmd ^^^ n] else []) } })
    ∧ (∀ (addr cmd n : Byte) (s : State), s.txb.busy = true →
      exec (.txbegin addr cmd n) s = .next { s with txb := { s.txb with err := true } })

/-- TXPAY emits a payload byte (and the checksum after the last), or is refused outside a frame (R112). -/
def Obligations.TxpaySuppliesOrIsRefused : Prop :=
  (∀ (d : Byte) (s : State), s.txb.busy = true → s.txb.rem = 1 →
      exec (.txpay d) s = .next { s with txb := { s.txb with
        busy := false, rem := 0, acc := s.txb.acc ^^^ d, out := s.txb.out ++ [d, s.txb.acc ^^^ d] } })
    ∧ (∀ (d : Byte) (s : State), s.txb.busy = true → s.txb.rem ≠ 1 →
      exec (.txpay d) s = .next { s with txb := { s.txb with
        rem := s.txb.rem - 1, acc := s.txb.acc ^^^ d, out := s.txb.out ++ [d] } })
    ∧ (∀ (d : Byte) (s : State), s.txb.busy = false →
      exec (.txpay d) s = .next { s with txb := { s.txb with err := true } })

/-- TXCLR makes the builder idle and clears TX_ERR; emitted bytes stay sent (R113). -/
def Obligations.TxclrAbandonsFrame : Prop :=
  (∀ s : State, exec .txclr s = .next { s with txb :=
      { busy := false, rem := 0, acc := 0x00, err := false, out := s.txb.out } })
    ∧ (∀ (s : State) (addr cmd n : Byte), ∃ (t : State) (l : List Byte),
      execList [.txclr, .txbegin addr cmd n] s = .next t ∧ t.txb.err = false
        ∧ t.txb.out = s.txb.out ++ [0xAB, 0xBA, addr, cmd, n] ++ l)

/-- ENCODE from an idle builder appends exactly encode(addr, cmd, p) and ends idle (R87, R110, R114). -/
def Obligations.EncodeSequenceBuildsFrame : Prop :=
  ∀ (addr cmd : Byte) (p : List Byte) (s : State), p.length ≤ 255 → s.txb.busy = false →
    execList (encodeOps addr cmd p) s = .next (s.setTxb
      { busy := false, rem := 0, acc := xor8 (frameCovered addr cmd p)
        out := s.txb.out ++ frameEncode addr cmd p, err := s.txb.err })

/-- Operations of other units between those of ENCODE do not change the frame (R114). -/
def Obligations.InterleavedEncodeBuildsFrame : Prop :=
  ∀ (addr cmd : Byte) (p : List Byte) (ops : List Instr) (s : State),
    p.length ≤ 255 → s.txb.busy = false → ops.filter touchesTxb = encodeOps addr cmd p →
    (∀ t : State, execList ops s = .next t →
      t.txb = { busy := false, rem := 0, acc := xor8 (frameCovered addr cmd p)
                out := s.txb.out ++ frameEncode addr cmd p, err := s.txb.err }
        ∧ (frameEncode addr cmd p).getLast? = some t.txb.acc)
    ∧ (s.rxv.Inv → ∃ t : State, execList ops s = .next t)

/-- The layout and the size of a frame with n payload bytes: 6 + n, from 6 to 261 (R70, R75). -/
def Obligations.FrameSizesAndFields : Prop :=
  ∀ (addr x : Byte) (p : List Byte), p.length ≤ 255 →
    (let f := frameEncode addr x p
     f[0]? = some 0xAB ∧ f[1]? = some 0xBA ∧ f[2]? = some addr ∧ f[3]? = some x
       ∧ (f[4]?.map BitVec.toNat) = some p.length ∧ slice f 5 (5 + p.length) = p
       ∧ f[5 + p.length]? = some (xor8 (slice f 2 (5 + p.length))) ∧ f.length = 6 + p.length
       ∧ 6 ≤ f.length ∧ f.length ≤ 261)
    ∧ (inboundFrame addr x p).length = 6 + p.length

/-- No frame of the builder is accepted by the validator (R119). -/
def Obligations.BuilderFramesAreNeverAccepted : Prop :=
  ∀ (addr cmd : Byte) (p : List Byte) (s : State), p.length ≤ 255 →
    frameDecode (frameEncode addr cmd p) = (if addr = 0x00 then .invalidHeader else .checksumMismatch)
    ∧ ∃ t : State, execList (decodeOps (frameEncode addr cmd p)) s = .next t
        ∧ t.rxv.verdict = (if addr = 0x00 then .vHeader else .vChecksum)

/-- RXCLR opens a new buffer; every location becomes unwritten, the result latch stays (R128). -/
def Obligations.RxclrOpensEmptyBuffer : Prop :=
  (∀ s : State, ∃ r : Rxv, exec .rxclr s = .next { s with rxv := r }
      ∧ r.cnt = 0 ∧ r.ovf = false ∧ r.acc = 0x00 ∧ r.done = false ∧ r.verdict = .vNone ∧ r.plen = 0x00
      ∧ r.drop = false ∧ (∀ k, r.buf.read k = none)
      ∧ r.rdData = s.rxv.rdData ∧ r.rdOk = s.rxv.rdOk)
    ∧ exec .rxclr State.reset = .next State.reset

/-- RXB stores and sums the byte of an open buffer, and is dropped on a closed one (R126). -/
def Obligations.RxbStoresSumsOrDrops : Prop :=
  (∀ (d : Byte) (s : State), s.rxv.done = false →
      ∃ r : Rxv, exec (.rxb d) s = .next { s with rxv := r }
        ∧ (s.rxv.cnt.toNat < 261 → r.cnt.toNat = s.rxv.cnt.toNat + 1 ∧ r.ovf = s.rxv.ovf
            ∧ r.buf.read s.rxv.cnt.toNat = some d
            ∧ ∀ k, k ≠ s.rxv.cnt.toNat → r.buf.read k = s.rxv.buf.read k)
        ∧ (261 ≤ s.rxv.cnt.toNat → r.cnt = s.rxv.cnt ∧ r.ovf = true
            ∧ ∀ k, r.buf.read k = s.rxv.buf.read k)
        ∧ (3 ≤ s.rxv.cnt.toNat → r.acc = s.rxv.acc ^^^ d)
        ∧ (s.rxv.cnt.toNat < 3 → r.acc = s.rxv.acc)
        ∧ r.done = false ∧ r.verdict = s.rxv.verdict ∧ r.plen = s.rxv.plen ∧ r.drop = s.rxv.drop
        ∧ r.rdData = s.rxv.rdData ∧ r.rdOk = s.rxv.rdOk)
    ∧ (∀ (d : Byte) (s : State), s.rxv.done = true →
      exec (.rxb d) s = .next { s with rxv := { s.rxv with drop := true } })

/-- RXEND closes the buffer with the verdict of the decision chain and never reads an unwritten location
(R127, R131). -/
def Obligations.RxendFormsVerdict : Prop :=
  (∀ s : State, s.rxv.Inv → s.rxv.done = false →
      ∃ v : Verdict,
        (let rd := fun k => (s.rxv.buf.read k).getD 0x00
         v = (if s.rxv.cnt.toNat < 4 then .vMalformed
              else if s.rxv.acc ≠ 0x00 then .vChecksum
              else if rd 0 ≠ 0xCD ∨ rd 1 ≠ 0xDC then .vHeader
              else if rd 3 = 0x81 then
                if (rd 4).toNat + 5 > s.rxv.cnt.toNat then .vMalformed else .vOk
              else if rd 3 = 0x80 then .vOpFailed
              else .vUnexpected)
         ∧ exec .rxend s = .next { s with rxv := { s.rxv with
             verdict := v, plen := (if v = .vOk then rd 4 else 0x00), done := true } }))
    ∧ (∀ s : State, s.rxv.done = true → exec .rxend s = .next s)

/-- RXRD reads a written location of the closed buffer and is refused otherwise (R129). -/
def Obligations.RxrdReadsClosedBuffer : Prop :=
  (∀ (k : BufAddr) (s : State), s.rxv.Inv → s.rxv.done = true → k.toNat < s.rxv.cnt.toNat →
      ∃ v : Byte, s.rxv.buf.read k.toNat = some v
        ∧ exec (.rxrd k) s = .next { s with rxv := { s.rxv with rdData := v, rdOk := true } })
    ∧ (∀ (k : BufAddr) (s : State), s.rxv.done = false ∨ s.rxv.cnt.toNat ≤ k.toNat →
      exec (.rxrd k) s = .next { s with rxv := { s.rxv with rdData := 0x00, rdOk := false } })

/-- PAYRD reads a payload byte of a successful buffer and is refused otherwise (R130). -/
def Obligations.PayrdReadsPayload : Prop :=
  (∀ (i : Byte) (s : State), s.rxv.Inv → s.rxv.verdict = .vOk → i.toNat < s.rxv.plen.toNat →
      5 + i.toNat < s.rxv.cnt.toNat ∧ 5 + i.toNat ≤ 259
        ∧ ∃ v : Byte, s.rxv.buf.read (5 + i.toNat) = some v
          ∧ exec (.payrd i) s = .next { s with rxv := { s.rxv with rdData := v, rdOk := true } })
    ∧ (∀ (i : Byte) (s : State), s.rxv.verdict ≠ .vOk ∨ s.rxv.plen.toNat ≤ i.toNat →
      exec (.payrd i) s = .next { s with rxv := { s.rxv with rdData := 0x00, rdOk := false } })

/-- A read that RX_CNT allows of a location without a value stops with a fault (the model's choice, log 9)
(R52). -/
def Obligations.UnwrittenReadsFault : Prop :=
  (∀ (k : BufAddr) (s : State), s.rxv.done = true → k.toNat < s.rxv.cnt.toNat →
      s.rxv.buf.read k.toNat = none → exec (.rxrd k) s = .fault (.unwrittenLocation k.toNat))
    ∧ (∀ (i : Byte) (s : State), s.rxv.verdict = .vOk → i.toNat < s.rxv.plen.toNat →
      s.rxv.buf.read (5 + i.toNat) = none → exec (.payrd i) s = .fault (.unwrittenLocation (5 + i.toNat)))

/-- RXCLR, the RXBs of any buffer and RXEND report exactly decode of the buffer, and the three views show
its bytes 2, 3 and 4 (R87, R125, R132, R134, R39). -/
def Obligations.DecodeSequenceReportsOutcome : Prop :=
  (∀ (b : List Byte) (s : State), ∃ r : Rxv,
      execList (decodeOps b) s = .next (s.setRxv r) ∧ r.Reports b ∧ r.drop = false
        ∧ r.rdData = s.rxv.rdData ∧ r.rdOk = s.rxv.rdOk
        ∧ r.rxAddr = b[2]? ∧ r.rxStatus = b[3]? ∧ r.rxLen = b[4]?)
    ∧ (∀ s : State, s.rxv.Inv →
      (if 3 ≤ s.rxv.cnt.toNat then ∃ v, s.rxv.rxAddr = some v ∧ s.rxv.buf.read 2 = some v
       else s.rxv.rxAddr = none)
      ∧ (if 4 ≤ s.rxv.cnt.toNat then ∃ v, s.rxv.rxStatus = some v ∧ s.rxv.buf.read 3 = some v
         else s.rxv.rxStatus = none)
      ∧ (if 5 ≤ s.rxv.cnt.toNat then ∃ v, s.rxv.rxLen = some v ∧ s.rxv.buf.read 4 = some v
         else s.rxv.rxLen = none))

/-- Operations of other units and reads between those of DECODE do not change what is reported (R132). -/
def Obligations.InterleavedDecodeReportsOutcome : Prop :=
  ∀ (b : List Byte) (ops : List Instr) (s : State), ops.filter touchesBuffer = decodeOps b →
    (∀ t : State, execList ops s = .next t → t.rxv.Reports b)
    ∧ (s.rxv.Inv → ∃ t : State, execList ops s = .next t)

/-- A buffer with status 0x81 or 0x80 presented whole is judged by decode (one step for it is the model's
choice, log 7) (R87, R88, R125, R197). -/
def Obligations.StatusRowsAreJudged : Prop :=
  ∀ (addr : Byte) (rest : List Byte) (s : State),
    (∃ r : Rxv, exec (.statusOk addr rest) s = .next (s.setRxv r)
      ∧ r.Reports ([0xCD, 0xDC, addr, 0x81] ++ rest)
      ∧ (r.verdict = .vOk ∨ r.verdict = .vMalformed ∨ r.verdict = .vChecksum))
    ∧ (∃ r : Rxv, exec (.statusFail addr rest) s = .next (s.setRxv r)
      ∧ r.Reports ([0xCD, 0xDC, addr, 0x80] ++ rest)
      ∧ (r.verdict = .vOpFailed ∨ r.verdict = .vChecksum)
      ∧ (r.verdict = .vOpFailed ↔ xor8 (0x80 :: rest) = 0x00))

/-- A well-formed inbound frame is classified by its status byte alone (R71, R125, R138,
95_test_vectors.md). -/
def Obligations.WellFormedFramesAreClassified : Prop :=
  ∀ (addr status : Byte) (p : List Byte), p.length ≤ 255 →
    frameDecode (inboundFrame addr status p)
      = (if status = 0x81 then .success p
         else if status = 0x80 then .operationFailed (inboundFrame addr status p)
         else .unexpectedStatus)

/-- Changing exactly one byte at index 3 or above of a buffer that passed the checksum makes it
ChecksumMismatch (R104, R133, 95_test_vectors.md). -/
def Obligations.SingleByteCorruptionIsDetected : Prop :=
  ∀ (b : List Byte) (i : Nat) (v : Byte), 4 ≤ b.length → frameDecode b ≠ .checksumMismatch →
    3 ≤ i → i < b.length → b[i]? ≠ some v → frameDecode (b.set i v) = .checksumMismatch

/-- Two buffers that differ only at index 2 get the same verdict and the same payload (R138). -/
def Obligations.AddressByteIsNotTested : Prop :=
  ∀ (b : List Byte) (v : Byte), 2 < b.length →
    (frameDecode (b.set 2 v)).verdict = (frameDecode b).verdict
    ∧ (∀ p, frameDecode (b.set 2 v) = .success p ↔ frameDecode b = .success p)
    ∧ (∀ s s' : State, ∃ t t' : State, execList (decodeOps b) s = .next t
        ∧ execList (decodeOps (b.set 2 v)) s' = .next t'
        ∧ t'.rxv.verdict = t.rxv.verdict ∧ t'.rxv.plen = t.rxv.plen ∧ t'.rxv.payload = t.rxv.payload
        ∧ t'.rxv.rxAddr = some v)

/-- The outcomes of buffers of 4 and 5 bytes; success needs 6 (R136). -/
def Obligations.ShortBufferOutcomes : Prop :=
  (∀ b0 b1 b2 b3 : Byte, frameDecode [b0, b1, b2, b3] =
      (if b3 ≠ 0x00 then .checksumMismatch
       else if b0 ≠ 0xCD ∨ b1 ≠ 0xDC then .invalidHeader else .unexpectedStatus))
    ∧ (∀ b0 b1 b2 b3 b4 : Byte, frameDecode [b0, b1, b2, b3, b4] =
      (if b4 ≠ b3 then .checksumMismatch
       else if b0 ≠ 0xCD ∨ b1 ≠ 0xDC then .invalidHeader
       else if b3 = 0x81 then .malformedFrame
       else if b3 = 0x80 then .operationFailed [b0, b1, b2, b3, b4] else .unexpectedStatus))
    ∧ (∀ (b p : List Byte), frameDecode b = .success p → 6 ≤ b.length)

/-- The length byte bounds the slice and is not compared with the buffer length (R137). -/
def Obligations.LengthByteIsOnlyABound : Prop :=
  (∀ (addr : Byte) (p extra : List Byte), p.length ≤ 255 →
      frameDecode ([0xCD, 0xDC, addr, 0x81, BitVec.ofNat 8 p.length] ++ p ++ extra
        ++ [xor8 ([0x81, BitVec.ofNat 8 p.length] ++ p ++ extra)]) = .success p)
    ∧ (∀ (addr : Byte) (q : List Byte), q.length ≤ 254 →
      frameDecode ([0xCD, 0xDC, addr, 0x81, BitVec.ofNat 8 (q.length + 1)] ++ q
        ++ [xor8 ([0x81, BitVec.ofNat 8 (q.length + 1)] ++ q)])
        = .success (q ++ [xor8 ([0x81, BitVec.ofNat 8 (q.length + 1)] ++ q)]))
    ∧ (∀ (addr len : Byte) (q : List Byte), 6 + q.length < 5 + len.toNat →
      frameDecode ([0xCD, 0xDC, addr, 0x81, len] ++ q ++ [xor8 ([0x81, len] ++ q)]) = .malformedFrame)

/-- After any buffer is judged, RXRD returns its retained raw bytes for every verdict (R129, R203). -/
def Obligations.RawBytesStayReadable : Prop :=
  ∀ (b : List Byte) (k : BufAddr) (s : State), ∃ t : State,
    execList (decodeOps b ++ [.rxrd k]) s = .next t
      ∧ t.rxv.rdOk = decide (k.toNat < b.length ∧ k.toNat < 261)
      ∧ (t.rxv.rdOk = true → b[k.toNat]? = some t.rxv.rdData)
      ∧ t.rxv.verdict = (frameDecode b).verdict

/-- After a successful buffer PAYRD returns the payload bytes; after any other outcome it is refused (R28,
R130, R139). -/
def Obligations.PayloadReadsBack : Prop :=
  ∀ (b : List Byte) (i : Byte) (s : State), ∃ t : State,
    execList (decodeOps b ++ [.payrd i]) s = .next t
      ∧ (∀ p, frameDecode b = .success p → t.rxv.rdOk = decide (i.toNat < p.length)
          ∧ (t.rxv.rdOk = true → p[i.toNat]? = some t.rxv.rdData))
      ∧ ((∀ p, frameDecode b ≠ .success p) → t.rxv.rdOk = false)

/-- While RX_DONE is 1 only RXCLR and reset change the closed buffer, and RXEND alone closes it (the whole-
buffer rows contain both; log 7) (R26, R87, R141). -/
def Obligations.ClosedBufferIsFrozen : Prop :=
  (∀ (i : Instr) (s t : State), exec i s = .next t → s.rxv.done = true →
      i ≠ .reset → i ≠ .rxclr → (∀ a l, i ≠ .statusOk a l) → (∀ a l, i ≠ .statusFail a l) →
        t.rxv.done = true ∧ t.rxv.verdict = s.rxv.verdict ∧ t.rxv.plen = s.rxv.plen
          ∧ t.rxv.cnt = s.rxv.cnt ∧ t.rxv.ovf = s.rxv.ovf ∧ t.rxv.acc = s.rxv.acc
          ∧ ∀ k, t.rxv.buf.read k = s.rxv.buf.read k)
    ∧ (∀ (i : Instr) (s t : State), exec i s = .next t → s.rxv.done = false → t.rxv.done = true →
        i = .rxend ∨ (∃ a l, i = .statusOk a l) ∨ (∃ a l, i = .statusFail a l))
    ∧ (∀ (s t : State), (exec .rxclr s = .next t ∨ exec .reset s = .next t) → t.rxv.done = false)

/-- PACK writes the five bytes of pack(f, id), sets CN_VALID and changes nothing else (R150). -/
def Obligations.PackWritesResult : Prop :=
  (∀ (f : Byte) (id : Half) (s : State),
      exec (.pack f id) s = .next { s with cnp := { out := pack f id, valid := true } })
    ∧ (∀ (f g : Byte) (id jd : Half) (s : State),
      execList [.pack f id, .pack g jd] s = exec (.pack g jd) s)
    ∧ pack 0x63 0x1C25 = { o0 := 0x20, o1 := 0x06, o2 := 0xC6, o3 := 0x38, o4 := 0x4A }

/-- The forty bits of the packer's result (R76). -/
def Obligations.PackBitTable : Prop :=
  ∀ (f : Byte) (id : Half),
    (let o := pack f id
     let EP := parity (evenPattern f id)
     let OP := !parity (oddPattern Config.pack id o.o3)
     o.o0 = 0x20
       ∧ (∀ i : Nat, o.o1.getLsbD i = ([f.getLsbD 7, EP, true, false, false, false, false, false].getD i false))
       ∧ o.o2.getLsbD 0 = id.getLsbD 13 ∧ (∀ i : Nat, i < 7 → o.o2.getLsbD (i + 1) = f.getLsbD i)
       ∧ (∀ i : Nat, i < 8 → o.o3.getLsbD i = id.getLsbD (i + 7))
       ∧ o.o4.getLsbD 0 = OP ∧ (∀ i : Nat, i < 7 → o.o4.getLsbD (i + 1) = id.getLsbD i))

/-- The closed form of the parity bits and of the result (R159). -/
def Obligations.PackClosedForm : Prop :=
  ∀ (f : Byte) (id : Half),
    (let EP := ((((parity (wide f)).xor (id.getLsbD 15)).xor (id.getLsbD 14)).xor (id.getLsbD 13)).xor
      (id.getLsbD 12)
     let OP := (((true.xor (id.getLsbD 14)).xor (id.getLsbD 13)).xor (id.getLsbD 12)).xor (id.getLsbD 7)
     parity (evenPattern f id) = EP
       ∧ (!parity (oddPattern Config.pack id (pack f id).o3)) = OP
       ∧ pack f id =
         { o0 := 0x20
           o1 := 0x04 ||| (BitVec.ofBool EP).setWidth 8 <<< 1 ||| (BitVec.ofBool (f.getLsbD 7)).setWidth 8
           o2 := (f.extractLsb' 0 7).setWidth 8 <<< 1 ||| (BitVec.ofBool (id.getLsbD 13)).setWidth 8
           o3 := id.extractLsb' 7 8
           o4 := (id.extractLsb' 0 7).setWidth 8 <<< 1 ||| (BitVec.ofBool OP).setWidth 8 })

/-- Different operand pairs give different results; ids that differ only in bit 15 differ only in EP (R158,
R79). -/
def Obligations.PackIsInjective : Prop :=
  (∀ (f g : Byte) (id jd : Half), pack f id = pack g jd → f = g ∧ id = jd)
    ∧ (∀ (f : Byte) (id : Half), 0x04 ≤ (pack f id).o1.toNat ∧ (pack f id).o1.toNat ≤ 0x07)
    ∧ (∀ (f : Byte) (id : Half), pack f (id ^^^ 0x8000)
        = { pack f id with o1 := (pack f id).o1 ^^^ 0x02 })

/-- The catalog calls without a precondition send their frame (a call as one step is the model's choice, log
4; its record, log 8) (R171, R172, R176, R177, R179, R182). -/
def Obligations.PlainCallsSendTheirFrame : Prop :=
  ∀ (addr : Byte) (s : State), s.txb.busy = false → s.request = .idle →
    (let sent := fun (cmd : Byte) (p : List Byte) => Host.Outcome.next (φ := Fault) (ρ := Refusal) { s with
      request := .sent, catalog := .sent
      txb := { busy := false, rem := 0, acc := xor8 (frameCovered addr cmd p)
               out := s.txb.out ++ frameEncode addr cmd p, err := s.txb.err } }
     exec (.cmdReadUid addr) s = sent 0x12 []
       ∧ exec (.cmdReadId addr) s = sent 0x15 []
       ∧ exec (.cmdReadContactlessUid addr) s = sent 0x19 []
       ∧ (∀ uid : List Byte, uid.length ≤ 255 → exec (.cmdWriteUid addr uid) s = sent 0x11 uid)
       ∧ (∀ id : List Byte, id.length ≤ 254 →
           exec (.cmdWriteChipId addr id) s = sent 0x16 (BitVec.ofNat 8 id.length :: id)))

/-- The catalog calls with a password send their frame when the preconditions hold (one step is the model's
choice, log 4; the record, log 8) (R173, R174, R175, R178, R182). -/
def Obligations.PasswordCallsSendTheirFrame : Prop :=
  ∀ (addr sector block group : Byte) (pw pw' : List Byte) (s : State),
    s.txb.busy = false → s.request = .idle → pw.length = 6 → pw'.length = 6 →
    (let sent := fun (cmd : Byte) (p : List Byte) => Host.Outcome.next (φ := Fault) (ρ := Refusal) { s with
      request := .sent, catalog := .sent
      txb := { busy := false, rem := 0, acc := xor8 (frameCovered addr cmd p)
               out := s.txb.out ++ frameEncode addr cmd p, err := s.txb.err } }
     exec (.cmdReadSector addr sector block group pw) s = sent 0x12 ([sector, block, group] ++ pw)
       ∧ (∀ data : List Byte, data.length ≤ 246 →
           exec (.cmdWriteSector addr sector block group pw data) s
             = sent 0x14 ([sector, block, group] ++ pw ++ data))
       ∧ exec (.cmdChangePassword addr sector group pw pw') s = sent 0x14 ([sector, group] ++ pw ++ pw')
       ∧ (group = 0x0A ∨ group = 0x0B →
           exec (.cmdReadAllBlocks addr group pw) s = sent 0x17 ([group] ++ pw)))

/-- A call does exactly what its ENCODE does, or is turned away while a request is in flight (the model's
choice, logs 4, 8, 14, 20) (R87, R182, R187, R223). -/
def Obligations.CallsIssueExactlyEncode : Prop :=
  ∀ (addr sector block group : Byte) (pw pw' uid id data : List Byte) (s : State),
    pw.length = 6 → pw'.length = 6 → uid.length ≤ 255 → id.length ≤ 254 → data.length ≤ 246 →
    (let issued := fun (cmd : Byte) (p : List Byte) =>
      if s.request = .idle then
        andThen (execList (encodeOps addr cmd p) s) (fun t => .next ((t.setRequest .sent).setCatalog .sent))
      else .next (s.setCatalog .turnedAway)
     exec (.cmdReadUid addr) s = issued 0x12 []
       ∧ exec (.cmdReadId addr) s = issued 0x15 []
       ∧ exec (.cmdReadContactlessUid addr) s = issued 0x19 []
       ∧ exec (.cmdWriteUid addr uid) s = issued 0x11 uid
       ∧ exec (.cmdWriteChipId addr id) s = issued 0x16 (BitVec.ofNat 8 id.length :: id)
       ∧ exec (.cmdReadSector addr sector block group pw) s = issued 0x12 ([sector, block, group] ++ pw)
       ∧ exec (.cmdWriteSector addr sector block group pw data) s
           = issued 0x14 ([sector, block, group] ++ pw ++ data)
       ∧ exec (.cmdChangePassword addr sector group pw pw') s = issued 0x14 ([sector, group] ++ pw ++ pw')
       ∧ (group = 0x0A ∨ group = 0x0B →
           exec (.cmdReadAllBlocks addr group pw) s = issued 0x17 ([group] ++ pw)))

/-- A precondition failure surfaces as InvalidArgument naming the constraint, and nothing is issued (R181). -/
def Obligations.BadArgumentsNeverReachTheWire : Prop :=
  ∀ (addr sector block group : Byte) (pw pw' data : List Byte) (s : State), pw.length ≠ 6 → pw'.length = 6 →
    (let invalid := fun (c : Constraint) => Host.Outcome.next (φ := Fault) (ρ := Refusal)
      { s with catalog := .rejected (.invalidArgument c) }
     (3 + pw.length ≤ 255 →
         exec (.cmdReadSector addr sector block group pw) s = invalid (.passwordLength pw.length))
       ∧ (3 + pw.length + data.length ≤ 255 →
           exec (.cmdWriteSector addr sector block group pw data) s = invalid (.passwordLength pw.length))
       ∧ (2 + pw.length + 6 ≤ 255 →
           exec (.cmdChangePassword addr sector group pw pw') s = invalid (.oldPasswordLength pw.length)
           ∧ exec (.cmdChangePassword addr sector group pw' pw) s = invalid (.newPasswordLength pw.length))
       ∧ (group = 0x0A ∨ group = 0x0B → 1 + pw.length ≤ 255 →
           exec (.cmdReadAllBlocks addr group pw) s = invalid (.passwordLength pw.length))
       ∧ (group ≠ 0x0A → group ≠ 0x0B →
           exec (.cmdReadAllBlocks addr group pw') s = invalid (.groupRange group)))

/-- An oversized payload is an InvalidArgument, and of several violations one is named (the model's choice,
logs 11, 13) (R73, R110, R181). -/
def Obligations.OversizedPayloadsAreRejected : Prop :=
  ∀ (addr sector block group : Byte) (pw q l : List Byte) (s : State),
    (let invalid := fun (c : Constraint) => Host.Outcome.next (φ := Fault) (ρ := Refusal)
      { s with catalog := .rejected (.invalidArgument c) }
     (255 < l.length → exec (.cmdWriteUid addr l) s = invalid (.payloadLength l.length))
       ∧ (254 < l.length → exec (.cmdWriteChipId addr l) s = invalid (.payloadLength (1 + l.length)))
       ∧ (pw.length = 6 → 246 < l.length →
           exec (.cmdWriteSector addr sector block group pw l) s = invalid (.payloadLength (9 + l.length)))
       ∧ (pw.length ≠ 6 →
           exec (.cmdReadSector addr sector block group pw) s = invalid (.passwordLength pw.length)
           ∧ exec (.cmdWriteSector addr sector block group pw l) s = invalid (.passwordLength pw.length)
           ∧ exec (.cmdChangePassword addr sector group pw q) s = invalid (.oldPasswordLength pw.length)
           ∧ (group = 0x0A ∨ group = 0x0B →
               exec (.cmdReadAllBlocks addr group pw) s = invalid (.passwordLength pw.length)))
       ∧ (pw.length = 6 → q.length ≠ 6 →
           exec (.cmdChangePassword addr sector group pw q) s = invalid (.newPasswordLength q.length))
       ∧ (group ≠ 0x0A → group ≠ 0x0B →
           exec (.cmdReadAllBlocks addr group pw) s = invalid (.groupRange group)))

/-- Write Tag Sector fails with NotImplemented and issues nothing (R180). -/
def Obligations.WriteTagSectorIsNotImplemented : Prop :=
  ∀ (addr : Byte) (raw : List Byte) (s : State),
    exec (.cmdWriteTagSector addr raw) s = .next { s with catalog := .rejected .notImplemented }

/-- Each call returns its reply, read with PAYRDs and RXRDs, its own error, or the transport's (the model's
choice, logs 4, 8, 18, 21, 22, 23) (R129, R130, R182, R186, R187, R198, R203). -/
def Obligations.CallsReturnTheirReply : Prop :=
  (∀ (c : NamedCall) (p b : List Byte) (s : State), c.payload = .ok p → s.request = .idle →
      s.txb.busy = false →
        (let n := match frameDecode b with
            | .success payload => payload.length
            | _ => 0
         (∃ t : State, runList (c.toInstr :: (decodeOps b ++ payloadReads n)) s = .next t
            ∧ t.txb.out = s.txb.out ++ frameEncode c.addr c.command p ∧ t.request = .idle
            ∧ catalogReturn t = some (match frameDecode b with
                | .success payload => .ok payload
                | .malformedFrame => .error .malformedFrame
                | .checksumMismatch => .error .checksumMismatch
                | .invalidHeader => .error .invalidHeader
                | .operationFailed _ => .error (.operationFailed [])
                | .unexpectedStatus => .error .unexpectedStatus)
            ∧ (∀ payload d, frameDecode b = .success payload → payload.getLast? = some d →
                t.rxv.rdOk = true ∧ t.rxv.rdData = d))
          ∧ (∀ k, k < n → ∃ t : State, runList (c.toInstr :: (decodeOps b ++ payloadReads k)) s = .next t
            ∧ catalogReturn t = none
            ∧ ∃ payload, frameDecode b = .success payload ∧ t.request = .reading (payload.take k))))
    ∧ (∀ (c : NamedCall) (p b response : List Byte) (ks : List BufAddr) (s : State), c.payload = .ok p →
      s.request = .idle → frameDecode b = .operationFailed response →
        ∃ (t : State) (raw : Memory), runList (c.toInstr :: (decodeOps b ++ rawReads ks)) s = .next t
          ∧ t.request = .idle ∧ catalogReturn t = some (.error (.operationFailed raw))
          ∧ (∀ k, raw.read k = if k ∈ ks.map BitVec.toNat then (response.take 261)[k]? else none)
          ∧ ∀ a ∈ ks.getLast?, t.rxv.rdOk = (response.take 261)[a.toNat]?.isSome
              ∧ t.rxv.rdData = ((response.take 261)[a.toNat]?).getD 0x00)
    ∧ (∀ (c : NamedCall) (p : List Byte) (ops : List Instr) (s t : State), c.payload = .ok p →
      s.request = .idle → (∀ i ∈ ops, notice i ≠ .opened ∧ isCall i = false) →
        runList (c.toInstr :: ops) s = .next t → t.request = .sent ∧ catalogReturn t = none)
    ∧ (∀ (c : NamedCall) (e : CatalogError) (s : State), c.payload = .error e →
      exec c.toInstr s = .next { s with catalog := .rejected e }
        ∧ catalogReturn { s with catalog := .rejected e } = some (.error e))
    ∧ (∀ (e : TransportError) (s : State) (rest : List Issue), s.issue = .transportFailed e :: rest →
      (s.request = .idle → step s = .next (s.setIssue rest))
        ∧ (s.request ≠ .idle → ∃ t : State, step s = .next t ∧ t.request = .idle
          ∧ catalogReturn t = some (.error (.transportError e)) ∧ t.issue = rest
          ∧ t.chk = s.chk ∧ t.rxv = s.rxv ∧ t.txb = s.txb ∧ t.cnp = s.cnp ∧ t.opErr = s.opErr))
    ∧ (∀ (i : Instr) (s u : State), notice i = .opened → exec i s = .next u →
      (∀ got, s.request = .reading got → ∃ t : State, runList [i] s = .next t ∧ t.rxv = u.rxv
          ∧ t.request = .idle ∧ catalogReturn t = none)
        ∧ (∀ raw, s.request = .idle → s.catalog = .opFailed raw → ∃ t : State, runList [i] s = .next t
          ∧ t.rxv = u.rxv ∧ t.request = .idle ∧ t.catalog = .returned (.error (.operationFailed raw))))

/-- The reset state satisfies the invariant (its clauses on the catalog are the model's choice, logs 8, 22, 23)
(R46, R47). -/
def Obligations.ResetSatisfiesInvariant : Prop :=
  ∀ items : List Issue, (State.reset.setIssue items).Inv

/-- Every step keeps the invariant (its clauses listening_open, reading_prefix and raw_read, on the catalog's
own fields, are the model's choice, logs 8, 22, 23) (R22, R24, R47, R52, R182, R187). -/
def Obligations.StepKeepsInvariant : Prop :=
  ∀ s t : State, s.Inv → step s = .next t → t.Inv

/-- The nine invariants of R47 hold in every state reachable from reset by any sequence of operations (R47). -/
def Obligations.ReachableStatesSatisfyListedInvariants : Prop :=
  ∀ (items : List Issue) (n : Nat) (t : State),
    Host.Core.run Sys2Proof.core n (State.reset.setIssue items) = .next t → ListedInvariants t

/-- Under the invariant the machine never traps; it refuses only a call's frame that the decoder rejects
(the model's choice, log 6) (R18, R52, R210). -/
def Obligations.StepNeverFaultsUnderInvariant : Prop :=
  ∀ s : State, s.Inv →
    (∃ t : State, step s = .next t) ∨
    (∃ (frame : List Byte) (rest : List Issue) (e : DecodeError), s.issue = .call frame :: rest
      ∧ decode (.call frame) = .rejected e ∧ step s = .refused (.badCall e))

/-- Operations on different units commute (R59). -/
def Obligations.OperationsOfDifferentUnitsCommute : Prop :=
  ∀ (i j : Instr) (s : State),
    part i ∈ [Part.chk, .txb, .rxv, .cnp] → part j ∈ [Part.chk, .txb, .rxv, .cnp] → part i ≠ part j →
    execList [i, j] s = execList [j, i] s

/-- An instruction changes only its own unit (that RESET keeps the stream and the catalog's record is the
model's choice, logs 1, 8) (R20, R45, R59, R101). -/
def Obligations.OnlyTheOwnUnitChanges : Prop :=
  ∀ (i : Instr) (s t : State), exec i s = .next t →
    t.issue = s.issue
    ∧ (isCall i = false → t.catalog = s.catalog ∧ t.request = s.request)
    ∧ (i ≠ .reset →
        (part i ≠ .chk → t.chk = s.chk) ∧ (part i ≠ .txb → t.txb = s.txb)
        ∧ (part i ≠ .rxv → t.rxv = s.rxv) ∧ (part i ≠ .cnp → t.cnp = s.cnp)
        ∧ (part i ≠ .flag → t.opErr = s.opErr))

/-- Nothing removes a byte from TX_OUT except reset, which empties it (R33, R113). -/
def Obligations.EmittedBytesStaySent : Prop :=
  (∀ (i : Instr) (s t : State), i ≠ .reset → exec i s = .next t → s.txb.out <+: t.txb.out)
    ∧ (∀ s t : State, exec .reset s = .next t → t.txb.out = [])

/-- RX_DROP and TX_ERR stay set until their rules' operations clear them and are set by refusals only (calls
and buffers in one step: logs 4, 7, 14) (R15, R29, R34, R202). -/
def Obligations.StickyFlagsStaySet : Prop :=
  ∀ (i : Instr) (s t : State), exec i s = .next t →
    (s.rxv.drop = true → i ≠ .reset → i ≠ .rxclr → (∀ a l, i ≠ .statusOk a l) →
      (∀ a l, i ≠ .statusFail a l) → t.rxv.drop = true)
    ∧ (s.rxv.drop = false → t.rxv.drop = true → s.rxv.done = true ∧ ∃ d, i = .rxb d)
    ∧ (s.txb.err = true → i ≠ .reset → i ≠ .txclr → t.txb.err = true)
    ∧ (s.txb.err = false → t.txb.err = true →
        (s.txb.busy = true ∧ ∃ a c n, i = .txbegin a c n) ∨ (s.txb.busy = false ∧ ∃ d, i = .txpay d)
        ∨ (s.txb.busy = true ∧ s.request = .idle ∧ sendsFrame i = true))
end

