-- ==== Sys2Proof/Laws/Memory.lean ====
section
/-! SUPPORT. The receive buffer: read after write, the canonical form, and the shape it has in every
reachable state (the locations below RX_CNT in rising order). -/

namespace Sys2Proof.Machine

@[simp] theorem Memory.read_nil (k : Nat) : Memory.read [] k = none := rfl

@[simp] theorem Memory.read_cons (a : Nat) (v : Byte) (m : Memory) (k : Nat) :
    Memory.read ((a, v) :: m) k = if a = k then some v else Memory.read m k := rfl

/-- The location written reads as the byte written. -/
theorem Memory.read_write_same (m : Memory) (k : Nat) (v : Byte) : (m.write k v).read k = some v := by
  induction m with
  | nil => simp [Memory.write]
  | cons c m ih =>
    obtain ⟨a, w⟩ := c
    unfold Memory.write
    split
    · simp
    · split
      · simp
      · simp [ih, Ne.symm ‹¬ k = a›]

/-- Every other location reads as before. -/
theorem Memory.read_write_other (m : Memory) {k j : Nat} (v : Byte) (h : j ≠ k) :
    (m.write k v).read j = m.read j := by
  induction m with
  | nil => simp [Memory.write, h.symm]
  | cons c m ih =>
    obtain ⟨a, w⟩ := c
    unfold Memory.write
    split
    · simp [h.symm]
    · split
      · subst_vars
        simp [h.symm]
      · simp [ih]

/-- Rising addresses, as a relation on the addresses alone. -/
theorem Memory.wf_iff (m : Memory) : m.wf = true ↔ (m.map Prod.fst).Pairwise (· < ·) := by
  rw [← List.isChain_iff_pairwise]
  induction m with
  | nil => simp [Memory.wf]
  | cons c m ih =>
    obtain ⟨a, v⟩ := c
    cases m with
    | nil => simp [Memory.wf]
    | cons d m =>
      obtain ⟨b, w⟩ := d
      simp only [Memory.wf, Bool.and_eq_true, decide_eq_true_eq, ih, List.map_cons,
        List.isChain_cons_cons]

/-- An address of the memory after a write is the one written or an old one. -/
theorem Memory.mem_write {m : Memory} {k j : Nat} {v : Byte} (h : j ∈ (m.write k v).map Prod.fst) :
    j = k ∨ j ∈ m.map Prod.fst := by
  induction m with
  | nil => simpa [Memory.write] using h
  | cons c m ih =>
    obtain ⟨a, w⟩ := c
    unfold Memory.write at h
    split at h
    · simpa using h
    · split at h
      · subst_vars
        simp only [List.map_cons, List.mem_cons] at h ⊢
        tauto
      · simp only [List.map_cons, List.mem_cons] at h ⊢
        rcases h with h | h
        · exact .inr (.inl h)
        · exact (ih h).imp_right .inr

/-- A write keeps the canonical form. -/
theorem Memory.write_wf {m : Memory} (k : Nat) (v : Byte) (h : m.wf = true) :
    (m.write k v).wf = true := by
  rw [Memory.wf_iff] at h ⊢
  induction m with
  | nil => simp [Memory.write]
  | cons c m ih =>
    obtain ⟨a, w⟩ := c
    simp only [List.map_cons, List.pairwise_cons] at h
    unfold Memory.write
    split
    · rename_i hk
      simp only [List.map_cons, List.pairwise_cons, List.mem_cons]
      refine ⟨?_, h⟩
      rintro j (rfl | hj)
      · exact hk
      · exact hk.trans (h.1 j hj)
    · split
      · subst_vars
        simpa using h
      · simp only [List.map_cons, List.pairwise_cons]
        refine ⟨fun j hj => ?_, ih h.2⟩
        rcases Memory.mem_write hj with rfl | hj
        · omega
        · exact h.1 j hj

/-- The empty buffer has the canonical form (RXCLR and RESET leave it so). -/
theorem Memory.nil_wf : Memory.wf [] = true := rfl

/-- A fetch answers exactly what the location holds. -/
theorem Memory.fetch_eq_ok {m : Memory} {k : Nat} {v : Byte} : m.fetch k = .ok v ↔ m.read k = some v := by
  unfold Memory.fetch
  split <;> simp_all

theorem Memory.fetch_of_read {m : Memory} {k : Nat} {v : Byte} (h : m.read k = some v) : m.fetch k = .ok v :=
  Memory.fetch_eq_ok.2 h

/-- Writing above every listed address appends. -/
theorem Memory.write_append {m : Memory} {k : Nat} (v : Byte) (h : ∀ a ∈ m.map Prod.fst, a < k) :
    m.write k v = m ++ [(k, v)] := by
  induction m with
  | nil => rfl
  | cons c m ih =>
    obtain ⟨a, w⟩ := c
    have ha : a < k := h a (by simp)
    have : ¬ k < a := by omega
    have : ¬ k = a := by omega
    simp only [Memory.write, *, if_false, List.cons_append]
    rw [ih fun j hj => h j (by simp at hj ⊢; exact .inr hj)]

/-- Writing location n of a buffer that lists 0 to n-1 lists 0 to n. -/
theorem Memory.write_range {m : Memory} {n : Nat} (v : Byte) (h : m.map Prod.fst = List.range n) :
    m.write n v = m ++ [(n, v)] :=
  Memory.write_append v fun a ha => by simpa [h] using ha

/-- A read of a memory that has a suffix appended. -/
theorem Memory.read_append (m l : Memory) (k : Nat) :
    Memory.read (m ++ l) k = (m.read k).orElse fun _ => Memory.read l k := by
  induction m with
  | nil => simp
  | cons c m ih =>
    obtain ⟨a, v⟩ := c
    by_cases h : a = k <;> simp [h, ih]

/-- In a buffer that lists 0 to n-1, location k holds the byte of index k. -/
theorem Memory.read_range {m : Memory} {n : Nat} (h : m.map Prod.fst = List.range n) (k : Nat) :
    m.read k = m.bytes[k]? := by
  induction m using List.reverseRecOn generalizing n with
  | nil => simp [Memory.bytes]
  | append_singleton m c ih =>
    obtain ⟨a, v⟩ := c
    cases n with
    | zero => simp at h
    | succ n =>
      rw [List.range_succ, List.map_append, List.map_singleton] at h
      have hm := List.append_inj_left' h rfl
      have ha : a = n := by simpa using List.append_inj_right' h rfl
      have hl : m.length = n := by simpa using congrArg List.length hm
      rw [Memory.read_append, ih hm]
      by_cases hk : k < n
      · simp [Memory.bytes, List.getElem?_append, hl, hk]
      · by_cases hkn : k = n
        · subst hkn
          simp [Memory.bytes, hl, ha]
        · have : ¬ a = k := by omega
          have h1 : n + 1 ≤ k := by omega
          simp [Memory.bytes, this, List.getElem?_append, hl, hk]
          omega

/-- Such a buffer retains as many bytes as it has locations. -/
theorem Memory.length_bytes {m : Memory} {n : Nat} (h : m.map Prod.fst = List.range n) :
    m.bytes.length = n := by
  simpa [Memory.bytes] using congrArg List.length h

end Sys2Proof.Machine
end

