-- ==== Sys2Proof/Laws/State.lean ====
section
/-! SUPPORT. One lemma per field per named update of the state and of its units, each true by `rfl`. -/

namespace Sys2Proof.Machine

/-! ## Updates of the whole state -/

@[simp] theorem State.setChk_chk (s : State) (v : Chk) : (s.setChk v).chk = v := rfl
@[simp] theorem State.setChk_rxv (s : State) (v : Chk) : (s.setChk v).rxv = s.rxv := rfl
@[simp] theorem State.setChk_txb (s : State) (v : Chk) : (s.setChk v).txb = s.txb := rfl
@[simp] theorem State.setChk_cnp (s : State) (v : Chk) : (s.setChk v).cnp = s.cnp := rfl
@[simp] theorem State.setChk_opErr (s : State) (v : Chk) : (s.setChk v).opErr = s.opErr := rfl
@[simp] theorem State.setChk_issue (s : State) (v : Chk) : (s.setChk v).issue = s.issue := rfl
@[simp] theorem State.setChk_request (s : State) (v : Chk) : (s.setChk v).request = s.request := rfl
@[simp] theorem State.setChk_catalog (s : State) (v : Chk) : (s.setChk v).catalog = s.catalog := rfl
@[simp] theorem State.setChk_self (s : State) : s.setChk s.chk = s := rfl
@[simp] theorem State.setChk_setChk (s : State) (v w : Chk) : (s.setChk v).setChk w = s.setChk w := rfl
@[simp] theorem State.setRxv_chk (s : State) (v : Rxv) : (s.setRxv v).chk = s.chk := rfl
@[simp] theorem State.setRxv_rxv (s : State) (v : Rxv) : (s.setRxv v).rxv = v := rfl
@[simp] theorem State.setRxv_txb (s : State) (v : Rxv) : (s.setRxv v).txb = s.txb := rfl
@[simp] theorem State.setRxv_cnp (s : State) (v : Rxv) : (s.setRxv v).cnp = s.cnp := rfl
@[simp] theorem State.setRxv_opErr (s : State) (v : Rxv) : (s.setRxv v).opErr = s.opErr := rfl
@[simp] theorem State.setRxv_issue (s : State) (v : Rxv) : (s.setRxv v).issue = s.issue := rfl
@[simp] theorem State.setRxv_request (s : State) (v : Rxv) : (s.setRxv v).request = s.request := rfl
@[simp] theorem State.setRxv_catalog (s : State) (v : Rxv) : (s.setRxv v).catalog = s.catalog := rfl
@[simp] theorem State.setRxv_self (s : State) : s.setRxv s.rxv = s := rfl
@[simp] theorem State.setRxv_setRxv (s : State) (v w : Rxv) : (s.setRxv v).setRxv w = s.setRxv w := rfl
@[simp] theorem State.setTxb_chk (s : State) (v : Txb) : (s.setTxb v).chk = s.chk := rfl
@[simp] theorem State.setTxb_rxv (s : State) (v : Txb) : (s.setTxb v).rxv = s.rxv := rfl
@[simp] theorem State.setTxb_txb (s : State) (v : Txb) : (s.setTxb v).txb = v := rfl
@[simp] theorem State.setTxb_cnp (s : State) (v : Txb) : (s.setTxb v).cnp = s.cnp := rfl
@[simp] theorem State.setTxb_opErr (s : State) (v : Txb) : (s.setTxb v).opErr = s.opErr := rfl
@[simp] theorem State.setTxb_issue (s : State) (v : Txb) : (s.setTxb v).issue = s.issue := rfl
@[simp] theorem State.setTxb_request (s : State) (v : Txb) : (s.setTxb v).request = s.request := rfl
@[simp] theorem State.setTxb_catalog (s : State) (v : Txb) : (s.setTxb v).catalog = s.catalog := rfl
@[simp] theorem State.setTxb_self (s : State) : s.setTxb s.txb = s := rfl
@[simp] theorem State.setTxb_setTxb (s : State) (v w : Txb) : (s.setTxb v).setTxb w = s.setTxb w := rfl
@[simp] theorem State.setCnp_chk (s : State) (v : Cnp) : (s.setCnp v).chk = s.chk := rfl
@[simp] theorem State.setCnp_rxv (s : State) (v : Cnp) : (s.setCnp v).rxv = s.rxv := rfl
@[simp] theorem State.setCnp_txb (s : State) (v : Cnp) : (s.setCnp v).txb = s.txb := rfl
@[simp] theorem State.setCnp_cnp (s : State) (v : Cnp) : (s.setCnp v).cnp = v := rfl
@[simp] theorem State.setCnp_opErr (s : State) (v : Cnp) : (s.setCnp v).opErr = s.opErr := rfl
@[simp] theorem State.setCnp_issue (s : State) (v : Cnp) : (s.setCnp v).issue = s.issue := rfl
@[simp] theorem State.setCnp_request (s : State) (v : Cnp) : (s.setCnp v).request = s.request := rfl
@[simp] theorem State.setCnp_catalog (s : State) (v : Cnp) : (s.setCnp v).catalog = s.catalog := rfl
@[simp] theorem State.setCnp_self (s : State) : s.setCnp s.cnp = s := rfl
@[simp] theorem State.setCnp_setCnp (s : State) (v w : Cnp) : (s.setCnp v).setCnp w = s.setCnp w := rfl
@[simp] theorem State.setOpErr_chk (s : State) (v : Bool) : (s.setOpErr v).chk = s.chk := rfl
@[simp] theorem State.setOpErr_rxv (s : State) (v : Bool) : (s.setOpErr v).rxv = s.rxv := rfl
@[simp] theorem State.setOpErr_txb (s : State) (v : Bool) : (s.setOpErr v).txb = s.txb := rfl
@[simp] theorem State.setOpErr_cnp (s : State) (v : Bool) : (s.setOpErr v).cnp = s.cnp := rfl
@[simp] theorem State.setOpErr_opErr (s : State) (v : Bool) : (s.setOpErr v).opErr = v := rfl
@[simp] theorem State.setOpErr_issue (s : State) (v : Bool) : (s.setOpErr v).issue = s.issue := rfl
@[simp] theorem State.setOpErr_request (s : State) (v : Bool) : (s.setOpErr v).request = s.request := rfl
@[simp] theorem State.setOpErr_catalog (s : State) (v : Bool) : (s.setOpErr v).catalog = s.catalog := rfl
@[simp] theorem State.setOpErr_self (s : State) : s.setOpErr s.opErr = s := rfl
@[simp] theorem State.setOpErr_setOpErr (s : State) (v w : Bool) : (s.setOpErr v).setOpErr w = s.setOpErr w := rfl
@[simp] theorem State.setIssue_chk (s : State) (v : List Issue) : (s.setIssue v).chk = s.chk := rfl
@[simp] theorem State.setIssue_rxv (s : State) (v : List Issue) : (s.setIssue v).rxv = s.rxv := rfl
@[simp] theorem State.setIssue_txb (s : State) (v : List Issue) : (s.setIssue v).txb = s.txb := rfl
@[simp] theorem State.setIssue_cnp (s : State) (v : List Issue) : (s.setIssue v).cnp = s.cnp := rfl
@[simp] theorem State.setIssue_opErr (s : State) (v : List Issue) : (s.setIssue v).opErr = s.opErr := rfl
@[simp] theorem State.setIssue_issue (s : State) (v : List Issue) : (s.setIssue v).issue = v := rfl
@[simp] theorem State.setIssue_request (s : State) (v : List Issue) : (s.setIssue v).request = s.request := rfl
@[simp] theorem State.setIssue_catalog (s : State) (v : List Issue) : (s.setIssue v).catalog = s.catalog := rfl
@[simp] theorem State.setIssue_self (s : State) : s.setIssue s.issue = s := rfl
@[simp] theorem State.setIssue_setIssue (s : State) (v w : List Issue) : (s.setIssue v).setIssue w = s.setIssue w := rfl
@[simp] theorem State.setRequest_chk (s : State) (v : Request) : (s.setRequest v).chk = s.chk := rfl
@[simp] theorem State.setRequest_rxv (s : State) (v : Request) : (s.setRequest v).rxv = s.rxv := rfl
@[simp] theorem State.setRequest_txb (s : State) (v : Request) : (s.setRequest v).txb = s.txb := rfl
@[simp] theorem State.setRequest_cnp (s : State) (v : Request) : (s.setRequest v).cnp = s.cnp := rfl
@[simp] theorem State.setRequest_opErr (s : State) (v : Request) : (s.setRequest v).opErr = s.opErr := rfl
@[simp] theorem State.setRequest_issue (s : State) (v : Request) : (s.setRequest v).issue = s.issue := rfl
@[simp] theorem State.setRequest_request (s : State) (v : Request) : (s.setRequest v).request = v := rfl
@[simp] theorem State.setRequest_catalog (s : State) (v : Request) : (s.setRequest v).catalog = s.catalog := rfl
@[simp] theorem State.setRequest_self (s : State) : s.setRequest s.request = s := rfl
@[simp] theorem State.setRequest_setRequest (s : State) (v w : Request) : (s.setRequest v).setRequest w = s.setRequest w := rfl
@[simp] theorem State.setCatalog_chk (s : State) (v : CallStatus) : (s.setCatalog v).chk = s.chk := rfl
@[simp] theorem State.setCatalog_rxv (s : State) (v : CallStatus) : (s.setCatalog v).rxv = s.rxv := rfl
@[simp] theorem State.setCatalog_txb (s : State) (v : CallStatus) : (s.setCatalog v).txb = s.txb := rfl
@[simp] theorem State.setCatalog_cnp (s : State) (v : CallStatus) : (s.setCatalog v).cnp = s.cnp := rfl
@[simp] theorem State.setCatalog_opErr (s : State) (v : CallStatus) : (s.setCatalog v).opErr = s.opErr := rfl
@[simp] theorem State.setCatalog_issue (s : State) (v : CallStatus) : (s.setCatalog v).issue = s.issue := rfl
@[simp] theorem State.setCatalog_request (s : State) (v : CallStatus) : (s.setCatalog v).request = s.request := rfl
@[simp] theorem State.setCatalog_catalog (s : State) (v : CallStatus) : (s.setCatalog v).catalog = v := rfl
@[simp] theorem State.setCatalog_self (s : State) : s.setCatalog s.catalog = s := rfl
@[simp] theorem State.setCatalog_setCatalog (s : State) (v w : CallStatus) : (s.setCatalog v).setCatalog w = s.setCatalog w := rfl
@[simp] theorem State.refuseOp_chk (s : State) : s.refuseOp.chk = s.chk := rfl
@[simp] theorem State.refuseOp_rxv (s : State) : s.refuseOp.rxv = s.rxv := rfl
@[simp] theorem State.refuseOp_txb (s : State) : s.refuseOp.txb = s.txb := rfl
@[simp] theorem State.refuseOp_cnp (s : State) : s.refuseOp.cnp = s.cnp := rfl
@[simp] theorem State.refuseOp_opErr (s : State) : s.refuseOp.opErr = true := rfl
@[simp] theorem State.refuseOp_issue (s : State) : s.refuseOp.issue = s.issue := rfl
@[simp] theorem State.refuseOp_request (s : State) : s.refuseOp.request = s.request := rfl
@[simp] theorem State.refuseOp_catalog (s : State) : s.refuseOp.catalog = s.catalog := rfl
@[simp] theorem State.answer_chk (s : State) (r : Except CatalogError (List Byte)) : (s.answer r).chk = s.chk := rfl
@[simp] theorem State.answer_rxv (s : State) (r : Except CatalogError (List Byte)) : (s.answer r).rxv = s.rxv := rfl
@[simp] theorem State.answer_txb (s : State) (r : Except CatalogError (List Byte)) : (s.answer r).txb = s.txb := rfl
@[simp] theorem State.answer_cnp (s : State) (r : Except CatalogError (List Byte)) : (s.answer r).cnp = s.cnp := rfl
@[simp] theorem State.answer_opErr (s : State) (r : Except CatalogError (List Byte)) : (s.answer r).opErr = s.opErr := rfl
@[simp] theorem State.answer_issue (s : State) (r : Except CatalogError (List Byte)) : (s.answer r).issue = s.issue := rfl
@[simp] theorem State.answer_request (s : State) (r : Except CatalogError (List Byte)) : (s.answer r).request = .idle := rfl
@[simp] theorem State.answer_catalog (s : State) (r : Except CatalogError (List Byte)) : (s.answer r).catalog = .returned r := rfl
@[simp] theorem State.loseReply_chk (s : State) : s.loseReply.chk = s.chk := rfl
@[simp] theorem State.loseReply_rxv (s : State) : s.loseReply.rxv = s.rxv := rfl
@[simp] theorem State.loseReply_txb (s : State) : s.loseReply.txb = s.txb := rfl
@[simp] theorem State.loseReply_cnp (s : State) : s.loseReply.cnp = s.cnp := rfl
@[simp] theorem State.loseReply_opErr (s : State) : s.loseReply.opErr = s.opErr := rfl
@[simp] theorem State.loseReply_issue (s : State) : s.loseReply.issue = s.issue := rfl
@[simp] theorem State.loseReply_request (s : State) : s.loseReply.request = .idle := rfl
@[simp] theorem State.loseReply_catalog (s : State) : s.loseReply.catalog = .replyLost := rfl
@[simp] theorem State.failOperation_chk (s : State) : s.failOperation.chk = s.chk := rfl
@[simp] theorem State.failOperation_rxv (s : State) : s.failOperation.rxv = s.rxv := rfl
@[simp] theorem State.failOperation_txb (s : State) : s.failOperation.txb = s.txb := rfl
@[simp] theorem State.failOperation_cnp (s : State) : s.failOperation.cnp = s.cnp := rfl
@[simp] theorem State.failOperation_opErr (s : State) : s.failOperation.opErr = s.opErr := rfl
@[simp] theorem State.failOperation_issue (s : State) : s.failOperation.issue = s.issue := rfl
@[simp] theorem State.failOperation_request (s : State) : s.failOperation.request = .idle := rfl
@[simp] theorem State.failOperation_catalog (s : State) : s.failOperation.catalog = .opFailed [] := rfl
@[simp] theorem State.closeRaw_chk (s : State) (raw : Memory) : (s.closeRaw raw).chk = s.chk := rfl
@[simp] theorem State.closeRaw_rxv (s : State) (raw : Memory) : (s.closeRaw raw).rxv = s.rxv := rfl
@[simp] theorem State.closeRaw_txb (s : State) (raw : Memory) : (s.closeRaw raw).txb = s.txb := rfl
@[simp] theorem State.closeRaw_cnp (s : State) (raw : Memory) : (s.closeRaw raw).cnp = s.cnp := rfl
@[simp] theorem State.closeRaw_opErr (s : State) (raw : Memory) : (s.closeRaw raw).opErr = s.opErr := rfl
@[simp] theorem State.closeRaw_issue (s : State) (raw : Memory) : (s.closeRaw raw).issue = s.issue := rfl
@[simp] theorem State.closeRaw_request (s : State) (raw : Memory) : (s.closeRaw raw).request = s.request := rfl
@[simp] theorem State.closeRaw_catalog (s : State) (raw : Memory) : (s.closeRaw raw).catalog = .returned (.error (.operationFailed raw)) := rfl

/-! ## Updates of CHK -/

@[simp] theorem Chk.clear_acc (c : Chk) : c.clear.acc = 0x00 := rfl
@[simp] theorem Chk.add_acc (c : Chk) (d : Byte) : (c.add d).acc = c.acc ^^^ d := rfl

/-! ## Updates of RXV -/

@[simp] theorem Rxv.clear_acc (r : Rxv) : r.clear.acc = 0x00 := rfl
@[simp] theorem Rxv.clear_buf (r : Rxv) : r.clear.buf = [] := rfl
@[simp] theorem Rxv.clear_cnt (r : Rxv) : r.clear.cnt = 0 := rfl
@[simp] theorem Rxv.clear_ovf (r : Rxv) : r.clear.ovf = false := rfl
@[simp] theorem Rxv.clear_done (r : Rxv) : r.clear.done = false := rfl
@[simp] theorem Rxv.clear_verdict (r : Rxv) : r.clear.verdict = .vNone := rfl
@[simp] theorem Rxv.clear_plen (r : Rxv) : r.clear.plen = 0x00 := rfl
@[simp] theorem Rxv.clear_drop (r : Rxv) : r.clear.drop = false := rfl
@[simp] theorem Rxv.clear_rdData (r : Rxv) : r.clear.rdData = r.rdData := rfl
@[simp] theorem Rxv.clear_rdOk (r : Rxv) : r.clear.rdOk = r.rdOk := rfl
@[simp] theorem Rxv.raiseVerdict_acc (r : Rxv) (v : Verdict) (n : Byte) : (r.raiseVerdict v n).acc = r.acc := rfl
@[simp] theorem Rxv.raiseVerdict_buf (r : Rxv) (v : Verdict) (n : Byte) : (r.raiseVerdict v n).buf = r.buf := rfl
@[simp] theorem Rxv.raiseVerdict_cnt (r : Rxv) (v : Verdict) (n : Byte) : (r.raiseVerdict v n).cnt = r.cnt := rfl
@[simp] theorem Rxv.raiseVerdict_ovf (r : Rxv) (v : Verdict) (n : Byte) : (r.raiseVerdict v n).ovf = r.ovf := rfl
@[simp] theorem Rxv.raiseVerdict_done (r : Rxv) (v : Verdict) (n : Byte) : (r.raiseVerdict v n).done = true := rfl
@[simp] theorem Rxv.raiseVerdict_verdict (r : Rxv) (v : Verdict) (n : Byte) : (r.raiseVerdict v n).verdict = v := rfl
@[simp] theorem Rxv.raiseVerdict_plen (r : Rxv) (v : Verdict) (n : Byte) : (r.raiseVerdict v n).plen = n := rfl
@[simp] theorem Rxv.raiseVerdict_drop (r : Rxv) (v : Verdict) (n : Byte) : (r.raiseVerdict v n).drop = r.drop := rfl
@[simp] theorem Rxv.raiseVerdict_rdData (r : Rxv) (v : Verdict) (n : Byte) : (r.raiseVerdict v n).rdData = r.rdData := rfl
@[simp] theorem Rxv.raiseVerdict_rdOk (r : Rxv) (v : Verdict) (n : Byte) : (r.raiseVerdict v n).rdOk = r.rdOk := rfl
@[simp] theorem Rxv.latch_acc (r : Rxv) (v : Byte) : (r.latch v).acc = r.acc := rfl
@[simp] theorem Rxv.latch_buf (r : Rxv) (v : Byte) : (r.latch v).buf = r.buf := rfl
@[simp] theorem Rxv.latch_cnt (r : Rxv) (v : Byte) : (r.latch v).cnt = r.cnt := rfl
@[simp] theorem Rxv.latch_ovf (r : Rxv) (v : Byte) : (r.latch v).ovf = r.ovf := rfl
@[simp] theorem Rxv.latch_done (r : Rxv) (v : Byte) : (r.latch v).done = r.done := rfl
@[simp] theorem Rxv.latch_verdict (r : Rxv) (v : Byte) : (r.latch v).verdict = r.verdict := rfl
@[simp] theorem Rxv.latch_plen (r : Rxv) (v : Byte) : (r.latch v).plen = r.plen := rfl
@[simp] theorem Rxv.latch_drop (r : Rxv) (v : Byte) : (r.latch v).drop = r.drop := rfl
@[simp] theorem Rxv.latch_rdData (r : Rxv) (v : Byte) : (r.latch v).rdData = v := rfl
@[simp] theorem Rxv.latch_rdOk (r : Rxv) (v : Byte) : (r.latch v).rdOk = true := rfl
@[simp] theorem Rxv.refuseRead_acc (r : Rxv) : r.refuseRead.acc = r.acc := rfl
@[simp] theorem Rxv.refuseRead_buf (r : Rxv) : r.refuseRead.buf = r.buf := rfl
@[simp] theorem Rxv.refuseRead_cnt (r : Rxv) : r.refuseRead.cnt = r.cnt := rfl
@[simp] theorem Rxv.refuseRead_ovf (r : Rxv) : r.refuseRead.ovf = r.ovf := rfl
@[simp] theorem Rxv.refuseRead_done (r : Rxv) : r.refuseRead.done = r.done := rfl
@[simp] theorem Rxv.refuseRead_verdict (r : Rxv) : r.refuseRead.verdict = r.verdict := rfl
@[simp] theorem Rxv.refuseRead_plen (r : Rxv) : r.refuseRead.plen = r.plen := rfl
@[simp] theorem Rxv.refuseRead_drop (r : Rxv) : r.refuseRead.drop = r.drop := rfl
@[simp] theorem Rxv.refuseRead_rdData (r : Rxv) : r.refuseRead.rdData = 0x00 := rfl
@[simp] theorem Rxv.refuseRead_rdOk (r : Rxv) : r.refuseRead.rdOk = false := rfl
@[simp] theorem Rxv.refuseDrop_acc (r : Rxv) : r.refuseDrop.acc = r.acc := rfl
@[simp] theorem Rxv.refuseDrop_buf (r : Rxv) : r.refuseDrop.buf = r.buf := rfl
@[simp] theorem Rxv.refuseDrop_cnt (r : Rxv) : r.refuseDrop.cnt = r.cnt := rfl
@[simp] theorem Rxv.refuseDrop_ovf (r : Rxv) : r.refuseDrop.ovf = r.ovf := rfl
@[simp] theorem Rxv.refuseDrop_done (r : Rxv) : r.refuseDrop.done = r.done := rfl
@[simp] theorem Rxv.refuseDrop_verdict (r : Rxv) : r.refuseDrop.verdict = r.verdict := rfl
@[simp] theorem Rxv.refuseDrop_plen (r : Rxv) : r.refuseDrop.plen = r.plen := rfl
@[simp] theorem Rxv.refuseDrop_drop (r : Rxv) : r.refuseDrop.drop = true := rfl
@[simp] theorem Rxv.refuseDrop_rdData (r : Rxv) : r.refuseDrop.rdData = r.rdData := rfl
@[simp] theorem Rxv.refuseDrop_rdOk (r : Rxv) : r.refuseDrop.rdOk = r.rdOk := rfl

/-! ## Updates of TXB -/

@[simp] theorem Txb.emit_busy (t : Txb) (l : List Byte) : (t.emit l).busy = t.busy := rfl
@[simp] theorem Txb.emit_rem (t : Txb) (l : List Byte) : (t.emit l).rem = t.rem := rfl
@[simp] theorem Txb.emit_acc (t : Txb) (l : List Byte) : (t.emit l).acc = t.acc := rfl
@[simp] theorem Txb.emit_out (t : Txb) (l : List Byte) : (t.emit l).out = t.out ++ l := rfl
@[simp] theorem Txb.emit_err (t : Txb) (l : List Byte) : (t.emit l).err = t.err := rfl
@[simp] theorem Txb.place_busy (t : Txb) (b : Bool) (n : Byte) (a : Byte) : (t.place b n a).busy = b := rfl
@[simp] theorem Txb.place_rem (t : Txb) (b : Bool) (n : Byte) (a : Byte) : (t.place b n a).rem = n := rfl
@[simp] theorem Txb.place_acc (t : Txb) (b : Bool) (n : Byte) (a : Byte) : (t.place b n a).acc = a := rfl
@[simp] theorem Txb.place_out (t : Txb) (b : Bool) (n : Byte) (a : Byte) : (t.place b n a).out = t.out := rfl
@[simp] theorem Txb.place_err (t : Txb) (b : Bool) (n : Byte) (a : Byte) : (t.place b n a).err = t.err := rfl
@[simp] theorem Txb.refuseErr_busy (t : Txb) : t.refuseErr.busy = t.busy := rfl
@[simp] theorem Txb.refuseErr_rem (t : Txb) : t.refuseErr.rem = t.rem := rfl
@[simp] theorem Txb.refuseErr_acc (t : Txb) : t.refuseErr.acc = t.acc := rfl
@[simp] theorem Txb.refuseErr_out (t : Txb) : t.refuseErr.out = t.out := rfl
@[simp] theorem Txb.refuseErr_err (t : Txb) : t.refuseErr.err = true := rfl
@[simp] theorem Txb.clear_busy (t : Txb) : t.clear.busy = false := rfl
@[simp] theorem Txb.clear_rem (t : Txb) : t.clear.rem = 0 := rfl
@[simp] theorem Txb.clear_acc (t : Txb) : t.clear.acc = 0x00 := rfl
@[simp] theorem Txb.clear_out (t : Txb) : t.clear.out = t.out := rfl
@[simp] theorem Txb.clear_err (t : Txb) : t.clear.err = false := rfl

end Sys2Proof.Machine
end

