-- ==== Sys2Proof/Laws/Ops.lean ====
section
/-! SUPPORT. One lemma per shared operation and per step function, saying once everything it can do;
later proofs cite these and do not unfold the definitions. -/

namespace Sys2Proof.Machine

/-! ## The checksum -/

@[simp] theorem xor8_nil : xor8 [] = 0x00 := rfl

@[simp] theorem xor8_concat (s : List Byte) (d : Byte) : xor8 (s ++ [d]) = xor8 s ^^^ d := by
  simp [xor8]

/-! ## TXB -/

/-- Everything TXBEGIN can do to the builder. -/
theorem Txb.start_cases (t : Txb) (addr cmd n : Byte) :
    (t.busy = true ∧ t.start addr cmd n = t.refuseErr) ∨
    (t.busy = false ∧ n = 0 ∧ t.start addr cmd n =
      (t.emit [Config.txSync0, Config.txSync1, addr, cmd, n, addr ^^^ cmd ^^^ n]).place false 0
        (addr ^^^ cmd ^^^ n)) ∨
    (t.busy = false ∧ n ≠ 0 ∧ t.start addr cmd n =
      (t.emit [Config.txSync0, Config.txSync1, addr, cmd, n]).place true n (addr ^^^ cmd ^^^ n)) := by
  unfold Txb.start
  cases t.busy
  · by_cases hn : n = 0#8 <;> simp [hn]
  · simp

/-- Everything TXPAY can do to the builder. -/
theorem Txb.pay_cases (t : Txb) (d : Byte) :
    (t.busy = false ∧ t.pay d = t.refuseErr) ∨
    (t.busy = true ∧ t.rem = 1 ∧ t.pay d = (t.emit [d, t.acc ^^^ d]).place false 0 (t.acc ^^^ d)) ∨
    (t.busy = true ∧ t.rem ≠ 1 ∧ t.pay d = (t.emit [d]).place true (t.rem - 1) (t.acc ^^^ d)) := by
  unfold Txb.pay absorb
  cases t.busy
  · simp
  · by_cases hn : t.rem = 1#8 <;> simp [hn]

/-! ## RXV -/

/-- Everything RXB can do to the validator: drop; store without summing; store and sum; only sum. -/
theorem Rxv.present_cases (r : Rxv) (d : Byte) :
    (r.done = true ∧ r.present d = r.refuseDrop) ∨
    (r.done = false ∧ r.cnt.toNat < Config.rxCkFirst ∧
      r.present d = { r with buf := r.buf.write r.cnt.toNat d, cnt := r.cnt + 1 }) ∨
    (r.done = false ∧ Config.rxCkFirst ≤ r.cnt.toNat ∧ r.cnt.toNat < Config.rxbufDepth ∧
      r.present d =
        { r with buf := r.buf.write r.cnt.toNat d, cnt := r.cnt + 1, acc := r.acc ^^^ d }) ∨
    (r.done = false ∧ Config.rxbufDepth ≤ r.cnt.toNat ∧
      r.present d = { r with ovf := true, acc := r.acc ^^^ d }) := by
  unfold Rxv.present Rxv.store Rxv.sum absorb
  cases r.done
  · by_cases h1 : r.cnt.toNat < Config.rxbufDepth
    · by_cases h2 : Config.rxCkFirst ≤ r.cnt.toNat
      · simp [h1, h2]
      · have h2' : r.cnt.toNat < Config.rxCkFirst := by omega
        simp [h1, h2']
    · have h1' : Config.rxbufDepth ≤ r.cnt.toNat := by omega
      have h2 : Config.rxCkFirst ≤ r.cnt.toNat :=
        le_trans (by decide) h1'
      simp [h1, h1', h2]
  · simp

/-- The comparison of R131 in numbers: the 9-bit sum does not wrap. -/
theorem slice_bound_iff (len : Byte) (cnt : BufAddr) :
    zext9 len + BitVec.ofNat 9 Config.rxPayFirst > cnt ↔ cnt.toNat < Config.rxPayFirst + len.toNat := by
  have h := len.isLt
  simp only [gt_iff_lt, BitVec.lt_def, zext9, Config.rxPayFirst, BitVec.toNat_add,
    BitVec.toNat_setWidth, BitVec.toNat_ofNat]
  omega

/-- The address of a payload byte in numbers: the 9-bit sum does not wrap (R130). -/
theorem payAddr_toNat (i : Byte) : (payAddr i).toNat = Config.rxPayFirst + i.toNat := by
  have h := i.isLt
  simp only [payAddr, zext9, Config.rxPayFirst, BitVec.toNat_add, BitVec.toNat_setWidth,
    BitVec.toNat_ofNat]
  omega

/-- Everything RXEND's verdict can be, with the tests that led to it (R131, R197). -/
theorem verdictOf_cases {cnt : BufAddr} {acc : Byte} {buf : Memory} {v : Verdict}
    (h : verdictOf cnt acc buf = .ok v) :
    (v = .vMalformed ∧ cnt.toNat < Config.rxMin) ∨
    (Config.rxMin ≤ cnt.toNat ∧
      ((v = .vChecksum ∧ acc ≠ 0x00) ∨
       (acc = 0x00 ∧ ∃ b0 b1, buf.read 0 = some b0 ∧ buf.read 1 = some b1 ∧
        ((v = .vHeader ∧ (b0 ≠ Config.rxSync0 ∨ b1 ≠ Config.rxSync1)) ∨
         (b0 = Config.rxSync0 ∧ b1 = Config.rxSync1 ∧ ∃ status, buf.read 3 = some status ∧
          ((status = Config.stOk ∧ ∃ len, buf.read 4 = some len ∧
            ((v = .vMalformed ∧ cnt.toNat < Config.rxPayFirst + len.toNat) ∨
             (v = .vOk ∧ Config.rxPayFirst + len.toNat ≤ cnt.toNat))) ∨
           (v = .vOpFailed ∧ status = Config.stFail) ∨
           (v = .vUnexpected ∧ status ≠ Config.stOk ∧ status ≠ Config.stFail))))))) := by
  unfold verdictOf at h
  split at h
  · cases h; exact .inl ⟨rfl, ‹_›⟩
  · rename_i hmin
    refine .inr ⟨by omega, ?_⟩
    split at h
    · cases h; exact .inl ⟨rfl, ‹_›⟩
    · rename_i hacc
      refine .inr ⟨by simpa using hacc, ?_⟩
      cases h0 : buf.fetch 0 with
      | error f => rw [h0] at h; cases h
      | ok b0 =>
      cases h1 : buf.fetch 1 with
      | error f => rw [h0, h1] at h; cases h
      | ok b1 =>
      rw [h0, h1] at h
      simp only [Except.bind] at h
      refine ⟨b0, b1, Memory.fetch_eq_ok.1 h0, Memory.fetch_eq_ok.1 h1, ?_⟩
      split at h
      · cases h; exact .inl ⟨rfl, ‹_›⟩
      · rename_i hs
        have hs' : b0 = Config.rxSync0 ∧ b1 = Config.rxSync1 := by tauto
        refine .inr ⟨hs'.1, hs'.2, ?_⟩
        cases h3 : buf.fetch 3 with
        | error f => rw [h3] at h; cases h
        | ok status =>
        rw [h3] at h
        simp only at h
        refine ⟨status, Memory.fetch_eq_ok.1 h3, ?_⟩
        split at h
        · refine .inl ⟨‹_›, ?_⟩
          cases h4 : buf.fetch 4 with
          | error f => rw [h4] at h; cases h
          | ok len =>
          rw [h4] at h
          simp only at h
          refine ⟨len, Memory.fetch_eq_ok.1 h4, ?_⟩
          split at h
          · rename_i hb
            cases h; exact .inl ⟨rfl, (slice_bound_iff _ _).1 hb⟩
          · rename_i hb
            cases h; exact .inr ⟨rfl, by rw [slice_bound_iff] at hb; omega⟩
        · split at h
          · cases h; exact .inr (.inl ⟨rfl, ‹_›⟩)
          · cases h; exact .inr (.inr ⟨rfl, ‹_›, ‹_›⟩)

/-- No test of the verdict answers V_NONE. -/
theorem verdictOf_ne_none {cnt : BufAddr} {acc : Byte} {buf : Memory} {v : Verdict}
    (h : verdictOf cnt acc buf = .ok v) : v ≠ .vNone := by
  rintro rfl
  rcases verdictOf_cases h with h | ⟨_, h | ⟨_, _, _, _, _, h | ⟨_, _, _, _, h | h | h⟩⟩⟩
  all_goals simp_all

/-- Everything RXEND can do to the validator, when it does not fault. -/
theorem Rxv.close_cases {r r' : Rxv} (h : r.close = .ok r') :
    (r.done = true ∧ r' = r) ∨
    (r.done = false ∧ ∃ v len, verdictOf r.cnt r.acc r.buf = .ok v ∧ r' = r.raiseVerdict v len ∧
      ((v = .vOk ∧ r.buf.read 4 = some len) ∨ (v ≠ .vOk ∧ len = 0x00))) := by
  unfold Rxv.close verdictLen at h
  split at h
  · cases h; exact .inl ⟨‹_›, rfl⟩
  · rename_i hd
    refine .inr ⟨by simpa using hd, ?_⟩
    cases hv : verdictOf r.cnt r.acc r.buf with
    | error f => rw [hv] at h; cases h
    | ok v =>
    rw [hv] at h
    simp only [Except.bind] at h
    by_cases hok : v = .vOk
    · simp only [hok, if_true] at h
      cases h4 : r.buf.fetch 4 with
      | error f => rw [h4] at h; cases h
      | ok len =>
        rw [h4] at h
        cases h
        exact ⟨v, len, rfl, by rw [hok], .inl ⟨hok, Memory.fetch_eq_ok.1 h4⟩⟩
    · simp only [hok, if_false] at h
      cases h
      exact ⟨v, 0, rfl, rfl, .inr ⟨hok, rfl⟩⟩

/-- Everything RXRD can do to the validator, when it does not fault. -/
theorem Rxv.readRaw_cases {r r' : Rxv} {k : BufAddr} (h : r.readRaw k = .ok r') :
    (r.done = true ∧ k.toNat < r.cnt.toNat ∧ ∃ v, r.buf.read k.toNat = some v ∧ r' = r.latch v) ∨
    (¬ (r.done = true ∧ k.toNat < r.cnt.toNat) ∧ r' = r.refuseRead) := by
  unfold Rxv.readRaw at h
  simp only [BitVec.lt_def] at h
  split at h
  · rename_i hc
    cases hf : r.buf.fetch k.toNat with
    | error f => rw [hf] at h; cases h
    | ok v =>
      rw [hf] at h
      cases h
      exact .inl ⟨hc.1, hc.2, v, Memory.fetch_eq_ok.1 hf, rfl⟩
  · cases h; exact .inr ⟨‹_›, rfl⟩

/-- Widening two bytes does not change how they compare. -/
theorem zext9_lt_iff (a b : Byte) : zext9 a < zext9 b ↔ a.toNat < b.toNat := by
  have ha := a.isLt
  have hb := b.isLt
  simp only [zext9, BitVec.lt_def, BitVec.toNat_setWidth]
  omega

/-- Everything PAYRD can do to the validator, when it does not fault. -/
theorem Rxv.readPayload_cases {r r' : Rxv} {i : Byte} (h : r.readPayload i = .ok r') :
    (r.verdict = .vOk ∧ i.toNat < r.plen.toNat ∧
      ∃ v, r.buf.read (Config.rxPayFirst + i.toNat) = some v ∧ r' = r.latch v) ∨
    (¬ (r.verdict = .vOk ∧ i.toNat < r.plen.toNat) ∧ r' = r.refuseRead) := by
  unfold Rxv.readPayload at h
  simp only [zext9_lt_iff, payAddr_toNat] at h
  split at h
  · rename_i hc
    cases hf : r.buf.fetch (Config.rxPayFirst + i.toNat) with
    | error f => rw [hf] at h; cases h
    | ok v =>
      rw [hf] at h
      cases h
      exact .inl ⟨hc.1, hc.2, v, Memory.fetch_eq_ok.1 hf, rfl⟩
  · cases h; exact .inr ⟨‹_›, rfl⟩

/-! ## Steps of the whole machine -/

/-- An RXV step that answers a next state changed the RXV unit only. -/
theorem State.withRxv_eq_next {s t : State} {x : Except Fault Rxv} :
    s.withRxv x = .next t ↔ ∃ r, x = .ok r ∧ t = s.setRxv r := by
  cases x <;> simp [State.withRxv, eq_comm]

/-- A catalog call issued its frame to the builder, or was turned away because a request is in flight, or
returned an error; nothing else changes. -/
theorem catalogCall_cases (addr cmd : Byte) (args : Except CatalogError (List Byte)) (s : State) :
    (∃ p, args = .ok p ∧ s.request = .idle ∧ catalogCall addr cmd args s =
      .next (((s.setTxb (s.txb.sendFrame addr cmd p)).setRequest .sent).setCatalog .sent)) ∨
    (∃ p, args = .ok p ∧ s.request ≠ .idle ∧
      catalogCall addr cmd args s = .next (s.setCatalog .turnedAway)) ∨
    (∃ e, args = .error e ∧ catalogCall addr cmd args s = .next (s.setCatalog (.rejected e))) := by
  cases args with
  | ok p =>
    by_cases h : s.request = .idle
    · exact .inl ⟨p, rfl, h, by simp [catalogCall, h]⟩
    · exact .inr (.inl ⟨p, rfl, h, by simp [catalogCall, h]⟩)
  | error e => exact .inr (.inr ⟨e, rfl, rfl⟩)

/-- A named call is the catalog call of its address, its command byte and its payload (R170, R183). -/
theorem exec_toInstr (c : NamedCall) (s : State) :
    exec c.toInstr s = catalogCall c.addr c.command c.payload s := by cases c <;> rfl

/-- Reading on, or the payload is complete and is returned. -/
theorem State.awaitPayload_cases (s : State) (got : List Byte) :
    (got.length < s.rxv.plen.toNat ∧ s.awaitPayload got = s.setRequest (.reading got)) ∨
    (s.rxv.plen.toNat ≤ got.length ∧ s.awaitPayload got = s.answer (.ok got)) := by
  unfold State.awaitPayload
  split
  · exact .inl ⟨‹_›, rfl⟩
  · exact .inr ⟨by omega, rfl⟩

/-- Everything the catalog can do with the validator it listens to. -/
theorem State.collect_cases (s : State) :
    (s.rxv.verdict = .vNone ∧ s.collect = s.setRequest .listening) ∨
    (s.rxv.verdict = .vOk ∧ s.collect = s.awaitPayload []) ∨
    (s.rxv.verdict = .vOpFailed ∧ s.collect = s.failOperation) ∨
    (∃ e, s.collect = s.answer (.error e) ∧
      ((s.rxv.verdict = .vMalformed ∧ e = .malformedFrame) ∨ (s.rxv.verdict = .vChecksum ∧ e = .checksumMismatch)
        ∨ (s.rxv.verdict = .vHeader ∧ e = .invalidHeader)
        ∨ (s.rxv.verdict = .vUnexpected ∧ e = .unexpectedStatus))) := by
  unfold State.collect
  cases s.rxv.verdict <;> simp

/-- Everything the catalog can do with a PAYRD while it reads a payload. -/
theorem State.takeByte_cases (s : State) (got : List Byte) (i : Byte) :
    (s.rxv.rdOk = true ∧ i.toNat = got.length ∧
      s.takeByte got i = s.awaitPayload (got ++ [s.rxv.rdData])) ∨
    (¬ (s.rxv.rdOk = true ∧ i.toNat = got.length) ∧ s.takeByte got i = s) := by
  unfold State.takeByte
  split
  · exact .inl ⟨(‹_ ∧ _›).1, (‹_ ∧ _›).2, rfl⟩
  · exact .inr ⟨‹_›, rfl⟩

/-- Everything the catalog can do after an item has run while no request is in flight. -/
theorem State.watchFailed_cases (s : State) (n : Notice) :
    s.watchFailed n = s ∨
    (∃ raw, s.catalog = .opFailed raw ∧ n = .opened ∧ s.watchFailed n = s.closeRaw raw) ∨
    (∃ raw k, s.catalog = .opFailed raw ∧ n = .rxrd k ∧ s.rxv.rdOk = true ∧
      s.watchFailed n = s.setCatalog (.opFailed (raw.write k.toNat s.rxv.rdData))) := by
  unfold State.watchFailed State.takeRaw
  cases s.catalog <;> cases n <;> simp
  cases s.rxv.rdOk <;> simp

/-- Everything the catalog can do after an item has run, by the stage of its request. -/
theorem State.watch_cases (s : State) (n : Notice) :
    (s.request = .idle ∧ s.watch n = s.watchFailed n) ∨
    (s.request = .sent ∧ n ≠ .opened ∧ s.watch n = s) ∨
    ((s.request = .listening ∨ (s.request = .sent ∧ n = .opened)) ∧ s.watch n = s.collect) ∨
    (∃ got, s.request = .reading got ∧
      ((n = .opened ∧ s.watch n = s.loseReply) ∨ (∃ i, n = .payrd i ∧ s.watch n = s.takeByte got i) ∨
        (n ≠ .opened ∧ (∀ i, n ≠ .payrd i) ∧ s.watch n = s))) := by
  unfold State.watch
  cases s.request <;> cases n <;> simp

/-- What the catalog does changes at most its own request and record. -/
theorem State.watch_eq (s : State) (n : Notice) :
    ∃ q c, s.watch n = (s.setRequest q).setCatalog c := by
  have await : ∀ got, ∃ q c, s.awaitPayload got = (s.setRequest q).setCatalog c := fun got => by
    rcases s.awaitPayload_cases got with ⟨_, h⟩ | ⟨_, h⟩
    · exact ⟨.reading got, s.catalog, h⟩
    · exact ⟨.idle, .returned (.ok got), h⟩
  have same : s.watch n = s → ∃ q c, s.watch n = (s.setRequest q).setCatalog c :=
    fun h => ⟨s.request, s.catalog, h⟩
  rcases s.watch_cases n with ⟨_, h⟩ | ⟨_, _, h⟩ | ⟨_, h⟩ | ⟨got, _, ⟨_, h⟩ | ⟨i, _, h⟩ | ⟨_, _, h⟩⟩
  · rcases s.watchFailed_cases n with h' | ⟨raw, _, _, h'⟩ | ⟨raw, k, _, _, _, h'⟩
    · exact same (h.trans h')
    · exact ⟨s.request, _, h.trans h'⟩
    · exact ⟨s.request, _, h.trans h'⟩
  · exact same h
  · rw [h]
    rcases s.collect_cases with ⟨_, h⟩ | ⟨_, h⟩ | ⟨_, h⟩ | ⟨e, h, _⟩
    · exact ⟨.listening, s.catalog, h⟩
    · rw [h]; exact await []
    · exact ⟨.idle, .opFailed [], h⟩
    · exact ⟨.idle, .returned (.error e), h⟩
  · exact ⟨.idle, .replyLost, h⟩
  · rw [h]
    rcases s.takeByte_cases got i with ⟨_, _, h'⟩ | ⟨_, h'⟩
    · rw [h']; exact await _
    · exact ⟨s.request, s.catalog, h'⟩
  · exact same h

/-! What the catalog does touches no element of the block and nothing that is presented. -/

@[simp] theorem State.watch_chk (s : State) (n : Notice) : (s.watch n).chk = s.chk := by
  obtain ⟨q, c, h⟩ := s.watch_eq n; rw [h]; rfl
@[simp] theorem State.watch_rxv (s : State) (n : Notice) : (s.watch n).rxv = s.rxv := by
  obtain ⟨q, c, h⟩ := s.watch_eq n; rw [h]; rfl
@[simp] theorem State.watch_txb (s : State) (n : Notice) : (s.watch n).txb = s.txb := by
  obtain ⟨q, c, h⟩ := s.watch_eq n; rw [h]; rfl
@[simp] theorem State.watch_cnp (s : State) (n : Notice) : (s.watch n).cnp = s.cnp := by
  obtain ⟨q, c, h⟩ := s.watch_eq n; rw [h]; rfl
@[simp] theorem State.watch_opErr (s : State) (n : Notice) : (s.watch n).opErr = s.opErr := by
  obtain ⟨q, c, h⟩ := s.watch_eq n; rw [h]; rfl
@[simp] theorem State.watch_issue (s : State) (n : Notice) : (s.watch n).issue = s.issue := by
  obtain ⟨q, c, h⟩ := s.watch_eq n; rw [h]; rfl
theorem State.watch_idle {s : State} (h : s.request = .idle) (hc : ∀ raw, s.catalog ≠ .opFailed raw)
    (n : Notice) : s.watch n = s := by
  simp only [State.watch, h]
  rcases s.watchFailed_cases n with h' | ⟨raw, h', _⟩ | ⟨raw, _, h', _⟩
  · exact h'
  · exact absurd h' (hc raw)
  · exact absurd h' (hc raw)

/-! What is presented makes no difference to the catalog. -/

theorem State.awaitPayload_setIssue (s : State) (l : List Issue) (got : List Byte) :
    (s.setIssue l).awaitPayload got = (s.awaitPayload got).setIssue l := by
  by_cases h : got.length < s.rxv.plen.toNat <;> simp [State.awaitPayload, h] <;> rfl
theorem State.collect_setIssue (s : State) (l : List Issue) :
    (s.setIssue l).collect = s.collect.setIssue l := by
  unfold State.collect
  simp only [State.setIssue_rxv]
  cases s.rxv.verdict <;> first | rfl | exact s.awaitPayload_setIssue l []
theorem State.takeByte_setIssue (s : State) (l : List Issue) (got : List Byte) (i : Byte) :
    (s.setIssue l).takeByte got i = (s.takeByte got i).setIssue l := by
  by_cases h : s.rxv.rdOk = true ∧ i.toNat = got.length
  · simp [State.takeByte, h, State.awaitPayload_setIssue]
  · unfold State.takeByte
    rw [if_neg h, if_neg (show ¬ ((s.setIssue l).rxv.rdOk = true ∧ i.toNat = got.length) from h)]
theorem State.takeRaw_setIssue (s : State) (l : List Issue) (raw : Memory) (k : BufAddr) :
    (s.setIssue l).takeRaw raw k = (s.takeRaw raw k).setIssue l := by
  unfold State.takeRaw
  rw [State.setIssue_rxv]
  cases s.rxv.rdOk <;> rfl
theorem State.watchFailed_setIssue (s : State) (n : Notice) (l : List Issue) :
    (s.setIssue l).watchFailed n = (s.watchFailed n).setIssue l := by
  unfold State.watchFailed
  simp only [State.setIssue_catalog]
  cases s.catalog <;> cases n <;> first | rfl | exact s.takeRaw_setIssue l _ _
theorem State.watch_setIssue (s : State) (n : Notice) (l : List Issue) :
    (s.setIssue l).watch n = (s.watch n).setIssue l := by
  unfold State.watch
  simp only [State.setIssue_request]
  cases s.request <;> cases n <;>
    first | rfl | exact s.watchFailed_setIssue _ l | exact s.collect_setIssue l | exact s.takeByte_setIssue l _ _

/-- Everything a report of the transport can do: end the request in flight with its error, or nothing. -/
theorem State.transportFailed_cases (s : State) (e : TransportError) :
    (s.request = .idle ∧ s.transportFailed e = s) ∨
    (s.request ≠ .idle ∧ s.transportFailed e = s.answer (.error (.transportError e))) := by
  unfold State.transportFailed
  cases s.request <;> simp

/-- An outcome that the catalog has looked at is a next state exactly when the outcome was one. -/
theorem watched_eq_next {n : Notice} {o : Host.Outcome State Fault Refusal} {t : State} :
    watched n o = .next t ↔ ∃ u, o = .next u ∧ t = u.watch n := by
  cases o <;> simp [watched, eq_comm]

/-- A payload fits or the call is an `InvalidArgument`. -/
theorem fitPayload_cases (p : List Byte) :
    (p.length ≤ Config.lenMax ∧ fitPayload p = .ok p) ∨
    (Config.lenMax < p.length ∧
      fitPayload p = .error (.invalidArgument (.payloadLength p.length))) := by
  unfold fitPayload
  split
  · exact .inl ⟨‹_›, rfl⟩
  · exact .inr ⟨by omega, rfl⟩

/-- What a step does with the item presented next. -/
theorem step_item {s : State} {item : Issue} {rest : List Issue} (h : s.issue = item :: rest) :
    step s = match decode item with
      | .instr i => watched (notice i) (exec i (s.setIssue rest))
      | .rejected e => runRejected item e (s.setIssue rest) := by
  have hf : s.fetch = some (item, s.setIssue rest) := by simp only [State.fetch, h]
  cases hd : decode item <;> simp only [step, hf, hd]

/-- What a step does with nothing presented. -/
theorem step_idle {s : State} (h : s.issue = []) : step s = .next s := by
  simp only [step, State.fetch, h, holdState]

end Sys2Proof.Machine
end

