-- ==== Sys2Proof/Laws/PerInstr.lean ====
section
/-! SUPPORT. A family over the constructors of `Instr`: the encoding of every instruction matches its
row of spec/opcode_table.json (R85, R88). -/

namespace Sys2Proof.Laws

/-- The bits of an operation word: b below, a above it, the operation code on top (R80). -/
theorem encodeWord_getLsbD (op : BitVec 4) (a : Byte) (b : Half) (i : Nat) :
    (encodeWord op a b).getLsbD i =
      if i < 16 then b.getLsbD i else if i - 16 < 8 then a.getLsbD (i - 16) else op.getLsbD (i - 16 - 8) := by
  have h (w : BitVec (4 + 8 + 16)) (hw : w = op ++ a ++ b) : w.getLsbD i =
      if i < 16 then b.getLsbD i
      else if i - 16 < 8 then a.getLsbD (i - 16) else op.getLsbD (i - 16 - 8) := by
    rw [hw, BitVec.getLsbD_append, BitVec.getLsbD_append]
  exact h _ rfl

/-- The operation code stands in bits 27..24 of the word, whatever the operands. -/
theorem encodeWord_key (op : BitVec 4) (a : Byte) (b : Half) :
    (encodeWord op a b).setWidth 32 &&& 0x0F000000 = (op.setWidth 32) <<< 24 := by
  apply BitVec.eq_of_getLsbD_eq
  intro i hi
  rw [BitVec.getLsbD_and, BitVec.getLsbD_setWidth, encodeWord_getLsbD]
  interval_cases i <;> simp

/-- The key of a frame whose address is masked out does not depend on the address. -/
theorem frameKey_masked (s0 s1 addr c : Byte) (rest : List Byte) :
    frameKey (s0 :: s1 :: addr :: c :: rest) &&& 0xFFFF00FF
      = frameKey [s0, s1, 0, c] := by
  have haddr : addr &&& 0x00 = 0x00 := by simp
  simp only [frameKey, List.getD_cons_zero, List.getD_cons_succ]
  have hm : (0xFFFF00FF : BitVec 32) = (0xFF : Byte) ++ (0xFF : Byte) ++ (0x00 : Byte) ++ (0xFF : Byte) := by
    decide
  have h1 : ∀ x : Byte, x &&& 0xFF = x := fun x => by simpa using BitVec.and_allOnes (x := x)
  rw [hm, BitVec.and_append, BitVec.and_append, BitVec.and_append, h1, h1, h1, haddr]

/-- The item's key, under its rows' mask, is the row's match. -/
def TableRow.Statement (i : Instr) : Prop :=
  issueKey (encode i) &&& tableMask (encode i) = BitVec.ofNat 32 (tableMatch i)

theorem TableRow.nop : TableRow.Statement .nop :=
  (encodeWord_key 0x0 0 0).trans (show _ = BitVec.ofNat 32 0x0000000 by decide)
theorem TableRow.reset : TableRow.Statement .reset :=
  (encodeWord_key 0x1 0 0).trans (show _ = BitVec.ofNat 32 0x1000000 by decide)
theorem TableRow.xclr : TableRow.Statement .xclr :=
  (encodeWord_key 0x2 0 0).trans (show _ = BitVec.ofNat 32 0x2000000 by decide)
theorem TableRow.xabs (d : Byte) : TableRow.Statement (.xabs d) :=
  (encodeWord_key 0x3 d 0).trans (show _ = BitVec.ofNat 32 0x3000000 by decide)
theorem TableRow.txbegin (addr cmd n : Byte) : TableRow.Statement (.txbegin addr cmd n) :=
  (encodeWord_key 0x4 addr (cmd ++ n)).trans (show _ = BitVec.ofNat 32 0x4000000 by decide)
theorem TableRow.txpay (d : Byte) : TableRow.Statement (.txpay d) :=
  (encodeWord_key 0x5 d 0).trans (show _ = BitVec.ofNat 32 0x5000000 by decide)
theorem TableRow.txclr : TableRow.Statement .txclr :=
  (encodeWord_key 0x6 0 0).trans (show _ = BitVec.ofNat 32 0x6000000 by decide)
theorem TableRow.rxclr : TableRow.Statement .rxclr :=
  (encodeWord_key 0x7 0 0).trans (show _ = BitVec.ofNat 32 0x7000000 by decide)
theorem TableRow.rxb (d : Byte) : TableRow.Statement (.rxb d) :=
  (encodeWord_key 0x8 d 0).trans (show _ = BitVec.ofNat 32 0x8000000 by decide)
theorem TableRow.rxend : TableRow.Statement .rxend :=
  (encodeWord_key 0x9 0 0).trans (show _ = BitVec.ofNat 32 0x9000000 by decide)
theorem TableRow.rxrd (k : BufAddr) : TableRow.Statement (.rxrd k) :=
  (encodeWord_key 0xA 0 (k.setWidth 16)).trans (show _ = BitVec.ofNat 32 0xA000000 by decide)
theorem TableRow.payrd (i : Byte) : TableRow.Statement (.payrd i) :=
  (encodeWord_key 0xB i 0).trans (show _ = BitVec.ofNat 32 0xB000000 by decide)
theorem TableRow.pack (f : Byte) (id : Half) : TableRow.Statement (.pack f id) :=
  (encodeWord_key 0xC f id).trans (show _ = BitVec.ofNat 32 0xC000000 by decide)
theorem TableRow.reservedD : TableRow.Statement .reservedD :=
  (encodeWord_key 0xD 0 0).trans (show _ = BitVec.ofNat 32 0xD000000 by decide)
theorem TableRow.reservedE : TableRow.Statement .reservedE :=
  (encodeWord_key 0xE 0 0).trans (show _ = BitVec.ofNat 32 0xE000000 by decide)
theorem TableRow.reservedF : TableRow.Statement .reservedF :=
  (encodeWord_key 0xF 0 0).trans (show _ = BitVec.ofNat 32 0xF000000 by decide)
theorem TableRow.cmdWriteUid (addr : Byte) (uid : List Byte) :
    TableRow.Statement (.cmdWriteUid addr uid) :=
  (frameKey_masked _ _ _ _ _).trans (show _ = BitVec.ofNat 32 0xABBA0011 by decide)
theorem TableRow.cmdReadUid (addr : Byte) : TableRow.Statement (.cmdReadUid addr) :=
  (frameKey_masked _ _ _ _ _).trans (show _ = BitVec.ofNat 32 0xABBA0012 by decide)
theorem TableRow.cmdReadSector (addr sector block group : Byte) (password : List Byte) :
    TableRow.Statement (.cmdReadSector addr sector block group password) :=
  (frameKey_masked _ _ _ _ _).trans (show _ = BitVec.ofNat 32 0xABBA0012 by decide)
theorem TableRow.cmdWriteSector (addr sector block group : Byte) (password sectorData : List Byte) :
    TableRow.Statement (.cmdWriteSector addr sector block group password sectorData) :=
  (frameKey_masked _ _ _ _ _).trans (show _ = BitVec.ofNat 32 0xABBA0014 by decide)
theorem TableRow.cmdChangePassword (addr sector group : Byte) (oldPassword newPassword : List Byte) :
    TableRow.Statement (.cmdChangePassword addr sector group oldPassword newPassword) :=
  (frameKey_masked _ _ _ _ _).trans (show _ = BitVec.ofNat 32 0xABBA0014 by decide)
theorem TableRow.cmdReadId (addr : Byte) : TableRow.Statement (.cmdReadId addr) :=
  (frameKey_masked _ _ _ _ _).trans (show _ = BitVec.ofNat 32 0xABBA0015 by decide)
theorem TableRow.cmdWriteChipId (addr : Byte) (id : List Byte) :
    TableRow.Statement (.cmdWriteChipId addr id) :=
  (frameKey_masked _ _ _ _ _).trans (show _ = BitVec.ofNat 32 0xABBA0016 by decide)
theorem TableRow.cmdReadAllBlocks (addr group : Byte) (password : List Byte) :
    TableRow.Statement (.cmdReadAllBlocks addr group password) :=
  (frameKey_masked _ _ _ _ _).trans (show _ = BitVec.ofNat 32 0xABBA0017 by decide)
theorem TableRow.cmdReadContactlessUid (addr : Byte) :
    TableRow.Statement (.cmdReadContactlessUid addr) :=
  (frameKey_masked _ _ _ _ _).trans (show _ = BitVec.ofNat 32 0xABBA0019 by decide)
theorem TableRow.cmdWriteTagSector (addr : Byte) (raw : List Byte) :
    TableRow.Statement (.cmdWriteTagSector addr raw) :=
  (frameKey_masked _ _ _ _ _).trans (show _ = BitVec.ofNat 32 0xABBA0021 by decide)
theorem TableRow.statusOk (addr : Byte) (rest : List Byte) :
    TableRow.Statement (.statusOk addr rest) :=
  (frameKey_masked _ _ _ _ _).trans (show _ = BitVec.ofNat 32 0xCDDC0081 by decide)
theorem TableRow.statusFail (addr : Byte) (rest : List Byte) :
    TableRow.Statement (.statusFail addr rest) :=
  (frameKey_masked _ _ _ _ _).trans (show _ = BitVec.ofNat 32 0xCDDC0080 by decide)

end Sys2Proof.Laws
end

