-- ==== Sys2Proof/Tests/Slice0.lean ====
section
/-! SUPPORT. Tests, each a named theorem. Expected values are the spec's: words of spec/30_encoding.md R84,
vectors of spec/95_test_vectors.md (V, E, P, X, Y), example frames of spec/45_command_catalog.md. The last
part shows, for every obligation with hypotheses, a state and operands that meet them. -/

namespace Sys2Proof.Tests

open Sys2Proof Sys2Proof.Machine

/-! ## Helpers -/

/-- Six bytes 0xFF, the password of the example frames. -/
def pw : List Byte := List.replicate 6 0xFF

/-- Vector V1, S1. -/
def v1 : List Byte := [0xCD, 0xDC, 0x00, 0x81, 0x04, 0xDE, 0xAD, 0xBE, 0xEF, 0xA7]
/-- Vector V2. -/
def v2 : List Byte := [0xCD, 0xDC, 0x00, 0x81, 0x00, 0x81]
/-- Vector V17. -/
def v17 : List Byte := [0xCD, 0xDC, 0x00, 0x81, 0x01, 0x80]

/-- Vector V25. -/
def v25 : List Byte := [0xCD, 0xDC, 0x00, 0x80, 0x02, 0x01, 0x02, 0x81]

/-- An open validator that holds `b`, with accumulator `acc`. -/
def holding (b : List Byte) (acc : Byte) : State :=
  State.reset.setRxv { Rxv.reset with buf := (List.range b.length).zip b, cnt := BitVec.ofNat 9 b.length, acc := acc }

/-- The same, closed with a verdict and a payload length. -/
def closed (b : List Byte) (acc : Byte) (v : Verdict) (plen : Byte) : State :=
  let s := holding b acc
  s.setRxv (s.rxv.raiseVerdict v plen)

/-- A call failed with the reply V25, of which `raw` has been read. -/
def failed (raw : Memory) : State := (closed v25 0 .vOpFailed 0).setCatalog (.opFailed raw)

/-- A builder inside a frame. -/
def building (out : List Byte) (rem acc : Byte) : State :=
  State.reset.setTxb { Txb.reset with busy := true, rem := rem, acc := acc, out := out }

/-- Whether an outcome is a next state with a property. -/
def ends (o : Host.Outcome State Fault Refusal) (p : State → Bool) : Bool :=
  match o with
  | .next s => p s
  | .fault _ => false
  | .refused _ => false

/-! ## Well-formedness: an ill-formed term for each check -/

theorem test_wf_write_uid : (Instr.cmdWriteUid 0 (List.replicate 256 0)).wellFormed = false := by decide +kernel
theorem test_wf_read_sector : (Instr.cmdReadSector 0 0 0 0 (List.replicate 253 0)).wellFormed = false := by
  decide +kernel
theorem test_wf_write_sector_password : (Instr.cmdWriteSector 0 0 0 0 (pw ++ [0]) []).wellFormed = false := by
  decide
theorem test_wf_write_sector_length :
    (Instr.cmdWriteSector 0 0 0 0 pw (List.replicate 247 0)).wellFormed = false := by decide +kernel
theorem test_wf_write_sector_shared_length :
    (Instr.cmdWriteSector 0 0 0 0 pw (List.replicate 5 0)).wellFormed = false := by decide
theorem test_wf_change_password_old : (Instr.cmdChangePassword 0 0 0 [0] pw).wellFormed = false := by decide
theorem test_wf_change_password_new : (Instr.cmdChangePassword 0 0 0 pw (pw ++ [0])).wellFormed = false := by
  decide
theorem test_wf_write_chip_id : (Instr.cmdWriteChipId 0 (List.replicate 255 0)).wellFormed = false := by decide +kernel
theorem test_wf_read_all_blocks : (Instr.cmdReadAllBlocks 0 0x0A (List.replicate 255 0)).wellFormed = false := by
  decide +kernel
theorem test_wf_write_tag_sector : (Instr.cmdWriteTagSector 0 (List.replicate 256 0)).wellFormed = false := by
  decide +kernel

/-! ## Decoding and encoding, a written-out word or frame for every constructor -/

/-- Item `w` is the encoding of `i` and decodes to it. -/
def Names (w : Issue) (i : Instr) : Prop := decode w = .instr i ∧ encode i = w

-- the words of R84, of the vector tables and of the programs Q1 to Q4
theorem test_code_nop : Names (.word 0x0000000) .nop := by unfold Names; decide
theorem test_code_reset : Names (.word 0x1000000) .reset := by unfold Names; decide
theorem test_code_xclr : Names (.word 0x2000000) .xclr := by unfold Names; decide
theorem test_code_xabs : Names (.word 0x3DE0000) (.xabs 0xDE) := by unfold Names; decide
theorem test_code_txbegin : Names (.word 0x455AA01) (.txbegin 0x55 0xAA 1) := by unfold Names; decide
theorem test_code_txpay : Names (.word 0x5C60000) (.txpay 0xC6) := by unfold Names; decide
theorem test_code_txclr : Names (.word 0x6000000) .txclr := by unfold Names; decide
theorem test_code_rxclr : Names (.word 0x7000000) .rxclr := by unfold Names; decide
theorem test_code_rxb : Names (.word 0x8CD0000) (.rxb 0xCD) := by unfold Names; decide
theorem test_code_rxend : Names (.word 0x9000000) .rxend := by unfold Names; decide
theorem test_code_rxrd : Names (.word 0xA0001FF) (.rxrd 0x1FF) := by unfold Names; decide
theorem test_code_payrd : Names (.word 0xB040000) (.payrd 4) := by unfold Names; decide
theorem test_code_pack : Names (.word 0xC7BB26E) (.pack 0x7B 0xB26E) := by unfold Names; decide
theorem test_code_reserved_d : Names (.word 0xD000000) .reservedD := by unfold Names; decide
theorem test_code_reserved_e : Names (.word 0xE000000) .reservedE := by unfold Names; decide
theorem test_code_reserved_f : Names (.word 0xF000000) .reservedF := by unfold Names; decide
-- unused fields are ignored (Y2, Y4, Y15)
theorem test_code_unused_fields : decode (.word 0x0ABCDEF) = .instr .nop
    ∧ decode (.word 0xFFFFFFF) = .instr .reservedF ∧ decode (.word 0xA00FE09) = .instr (.rxrd 9) := by decide
-- written lines of R86, and one whose operand does not fit its field
theorem test_written_lines : assembleLine "TXBEGIN" [0x00, 0x15, 0] = some (.txbegin 0x00 0x15 0)
    ∧ assembleLine "RXRD" [5] = some (.rxrd 5) ∧ assembleLine "PACK" [0x63, 0x1C25] = some (.pack 0x63 0x1C25)
    ∧ assembleLine "TXPAY" [0x100] = none := by decide
-- example frames of R171 to R179 (E2, E1, E13, E10, E3, E11, E12, E4, E6)
theorem test_code_read_uid : Names (.call [0xAB, 0xBA, 0x00, 0x12, 0x00, 0x12]) (.cmdReadUid 0) := by
  unfold Names; decide
theorem test_code_read_id : Names (.call [0xAB, 0xBA, 0x00, 0x15, 0x00, 0x15]) (.cmdReadId 0) := by
  unfold Names; decide
theorem test_code_read_contactless_uid :
    Names (.call [0xAB, 0xBA, 0x00, 0x19, 0x00, 0x19]) (.cmdReadContactlessUid 0) := by unfold Names; decide
theorem test_code_write_uid : Names (.call [0xAB, 0xBA, 0x00, 0x11, 0x04, 0xDE, 0xAD, 0xBE, 0xEF, 0x37])
    (.cmdWriteUid 0 [0xDE, 0xAD, 0xBE, 0xEF]) := by unfold Names; decide
theorem test_code_read_sector : Names (.call [0xAB, 0xBA, 0x00, 0x12, 0x09, 0x01, 0x00, 0x0A, 0xFF, 0xFF, 0xFF,
    0xFF, 0xFF, 0xFF, 0x10]) (.cmdReadSector 0 0x01 0x00 0x0A pw) := by unfold Names; decide
theorem test_code_write_sector : Names (.call [0xAB, 0xBA, 0x00, 0x14, 0x0B, 0x01, 0x00, 0x0A, 0xFF, 0xFF, 0xFF,
    0xFF, 0xFF, 0xFF, 0x01, 0x02, 0x17]) (.cmdWriteSector 0 0x01 0x00 0x0A pw [0x01, 0x02]) := by
  unfold Names; decide
theorem test_code_change_password : Names (.call [0xAB, 0xBA, 0x00, 0x14, 0x0E, 0x01, 0x0A, 0xFF, 0xFF, 0xFF,
    0xFF, 0xFF, 0xFF, 0x01, 0x02, 0x03, 0x04, 0x05, 0x06, 0x16])
    (.cmdChangePassword 0 0x01 0x0A pw [0x01, 0x02, 0x03, 0x04, 0x05, 0x06]) := by unfold Names; decide
theorem test_code_write_chip_id : Names (.call [0xAB, 0xBA, 0x00, 0x16, 0x06, 0x05, 0x20, 0x06, 0xC6, 0x38,
    0x4A, 0x87]) (.cmdWriteChipId 0 [0x20, 0x06, 0xC6, 0x38, 0x4A]) := by unfold Names; decide
theorem test_code_read_all_blocks : Names (.call [0xAB, 0xBA, 0x00, 0x17, 0x07, 0x0A, 0xFF, 0xFF, 0xFF, 0xFF,
    0xFF, 0xFF, 0x1A]) (.cmdReadAllBlocks 0 0x0A pw) := by unfold Names; decide
-- the command byte 0x21 of R180 in the layout of R70, length 0, checksum 0x00 ^ 0x21 ^ 0x00
theorem test_code_write_tag_sector :
    Names (.call [0xAB, 0xBA, 0x00, 0x21, 0x00, 0x21]) (.cmdWriteTagSector 0 []) := by unfold Names; decide
-- V4, V3
theorem test_code_status_ok :
    Names (.buffer [0xCD, 0xDC, 0x05, 0x81, 0x00, 0x81]) (.statusOk 0x05 [0x00, 0x81]) := by unfold Names; decide
theorem test_code_status_fail :
    Names (.buffer [0xCD, 0xDC, 0x00, 0x80, 0x00, 0x80]) (.statusFail 0x00 [0x00, 0x80]) := by
  unfold Names; decide

-- a Write Chip ID frame without its count byte is read with an empty id (the model's choice, log 6)
theorem test_code_write_chip_id_empty :
    decode (.call [0xAB, 0xBA, 0x00, 0x16, 0x00, 0x16]) = .instr (.cmdWriteChipId 0 []) := by decide

-- what the decoder rejects, by name (R183, R72, R88)
theorem test_reject_command : decode (.call [0xAB, 0xBA, 0x00, 0x13, 0x00, 0x13])
    = .rejected (.unassignedCommand 0x13) := by decide
theorem test_reject_status : decode (.buffer [0xCD, 0xDC, 0x00, 0x82, 0x00, 0x82])
    = .rejected (.otherStatus 0x82) := by decide
theorem test_reject_sync : decode (.buffer [0xAB, 0xBA, 0x00, 0x81, 0x00, 0x81]) = .rejected .wrongSync := by
  decide
theorem test_reject_short : decode (.buffer [0xCD]) = .rejected .shortHeader := by decide
theorem test_reject_truncated : decode (.call [0xAB, 0xBA, 0x00, 0x11, 0x02, 0xDE])
    = .rejected .truncatedFrame := by decide
theorem test_reject_shape : decode (.call [0xAB, 0xBA, 0x00, 0x15, 0x01, 0x00, 0x14])
    = .rejected .payloadShape := by decide

-- table words, and one of them run as the first instruction after reset
theorem test_table_word_operation : decodeTableWord 32 0xC631C25 = some (.pack 0x63 0x1C25) := by decide
theorem test_table_word_command : decodeTableWord 32 0xABBA0015 = some (.cmdReadId 0) := by decide
theorem test_table_word_status : decodeTableWord 32 0xCDDC0081 = some (.statusOk 0 [0, 0]) := by decide
theorem test_fetch_runs_table_word :
    ends (step (State.reset.withFetchWord 32 0x3810000)) (fun t => t.chk.acc == 0x81 && t.issue == []) = true := by
  decide

/-! ## One step of each instruction -/

theorem test_nop : ends (exec .nop (closed v2 0 .vOk 0)) (· == closed v2 0 .vOk 0) = true := by decide  -- Y1
theorem test_reset : ends (exec .reset ((building [0xAB] 2 0x10).setOpErr true)) (· == State.reset) = true := by
  decide  -- Y13
theorem test_xclr : ends (exec .xclr (State.reset.setChk { acc := 0xA7 })) (fun t => t.chk.acc == 0) = true := by
  decide  -- Q4
theorem test_xabs : ends (exec (.xabs 0xDE) (State.reset.setChk { acc := 0x85 }))
    (fun t => t.chk.acc == 0x5B) = true := by decide  -- X4
theorem test_txbegin_empty : ends (exec (.txbegin 0x00 0x15 0) State.reset)
    (fun t => t.txb.out == [0xAB, 0xBA, 0x00, 0x15, 0x00, 0x15] && !t.txb.busy && t.txb.acc == 0x15) = true := by
  decide  -- E1
theorem test_txbegin_refused : ends (exec (.txbegin 0x00 0x15 0) (building [0xAB, 0xBA, 0x00, 0x12, 0x02] 2 0x10))
    (fun t => t.stat == 0x00C0 && t.txb.out == [0xAB, 0xBA, 0x00, 0x12, 0x02] && t.txb.rem == 2) = true := by
  decide  -- Y6
theorem test_txpay_last : ends (exec (.txpay 0x4A) (building [] 1 0xCD))
    (fun t => t.txb.out == [0x4A, 0x87] && !t.txb.busy && t.txb.acc == 0x87) = true := by decide  -- E4
theorem test_txpay_refused : ends (exec (.txpay 0x11) State.reset)
    (fun t => t.stat == 0x0080 && t.txb.out == []) = true := by decide  -- Y5
theorem test_txclr : ends (exec .txclr (building [0xAB, 0xBA, 0x00, 0x12, 0x02] 2 0x10))
    (fun t => t.txb == { Txb.reset with out := [0xAB, 0xBA, 0x00, 0x12, 0x02] }) = true := by decide  -- Y7
theorem test_rxclr : ends (exec .rxclr ((closed v2 0 .vOk 0).setRxv ((closed v2 0 .vOk 0).rxv.latch 0xCD)))
    (fun t => t.stat == 0x0400 && t.rxv == { Rxv.reset with rdData := 0xCD, rdOk := true }) = true := by
  decide  -- Y12
theorem test_rxb_sums_from_index_3 : ends (exec (.rxb 0x81) (holding [0xCD, 0xDC, 0x00] 0))
    (fun t => t.rxv.acc == 0x81 && t.rxv.cnt == 4 && t.rxv.buf.read 3 == some 0x81) = true := by decide  -- V1
theorem test_rxb_dropped : ends (exec (.rxb 0x55) (closed v2 0 .vOk 0))
    (fun t => t.stat == 0x0023 && t.rxv.cnt == 6) = true := by decide  -- Y8
theorem test_rxend_ok : ends (exec .rxend (holding v1 0))
    (fun t => t.rxv.verdict == .vOk && t.rxv.plen == 4 && t.stat == 0x0003) = true := by decide  -- V1
theorem test_rxend_checksum_first : ends (exec .rxend (holding [0xAB, 0xBB, 0x00, 0x81, 0x00, 0x80] 0x01))
    (fun t => t.rxv.verdict == .vChecksum && t.rxv.plen == 0 && t.stat == 0x0007) = true := by decide  -- V28
theorem test_rxrd : ends (exec (.rxrd 9) (closed v1 0 .vOk 4))
    (fun t => t.rxv.rdData == 0xA7 && t.rxv.rdOk) = true := by decide  -- Y15
theorem test_rxrd_open_refused : ends (exec (.rxrd 0) (holding [0xCD] 0))
    (fun t => t.rxv.rdData == 0x00 && !t.rxv.rdOk) = true := by decide  -- Y10
theorem test_payrd : ends (exec (.payrd 0) (closed v17 0 .vOk 1))
    (fun t => t.rxv.rdData == 0x80 && t.rxv.rdOk) = true := by decide  -- V17
theorem test_payrd_refused : ends (exec (.payrd 4) (closed v1 0 .vOk 4))
    (fun t => t.rxv.rdData == 0x00 && !t.rxv.rdOk) = true := by decide  -- Q1 row 19
theorem test_pack_source_vector : ends (exec (.pack 0x63 0x1C25) State.reset)
    (fun t => t.cnp == { out := ⟨0x20, 0x06, 0xC6, 0x38, 0x4A⟩, valid := true }) = true := by decide  -- P1
theorem test_pack_id13 : ends (exec (.pack 0x00 0x2000) State.reset)
    (fun t => t.cnp.out == ⟨0x20, 0x06, 0x01, 0x40, 0x00⟩) = true := by decide  -- P12
theorem test_reserved_d : ends (exec .reservedD State.reset) (fun t => t.stat == 0x0200) = true := by decide  -- Y3
theorem test_reserved_e : ends (exec .reservedE State.reset) (fun t => t.opErr) = true := by decide  -- R167
theorem test_reserved_f : ends (exec .reservedF State.reset) (fun t => t.opErr) = true := by decide  -- Y4
theorem test_read_uid : ends (exec (.cmdReadUid 0) State.reset)
    (fun t => t.txb.out == [0xAB, 0xBA, 0x00, 0x12, 0x00, 0x12] && t.catalog == .sent) = true := by decide  -- E2
theorem test_read_id : ends (exec (.cmdReadId 0x07) State.reset)
    (fun t => t.txb.out == [0xAB, 0xBA, 0x07, 0x15, 0x00, 0x12]) = true := by decide  -- E9
theorem test_read_contactless_uid : ends (exec (.cmdReadContactlessUid 0) State.reset)
    (fun t => t.txb.out == [0xAB, 0xBA, 0x00, 0x19, 0x00, 0x19]) = true := by decide  -- E13
theorem test_write_uid : ends (exec (.cmdWriteUid 0 [0xDE, 0xAD, 0xBE, 0xEF]) State.reset)
    (fun t => t.txb.out == [0xAB, 0xBA, 0x00, 0x11, 0x04, 0xDE, 0xAD, 0xBE, 0xEF, 0x37]) = true := by
  decide  -- E10
theorem test_write_chip_id : ends (exec (.cmdWriteChipId 3 [0x20, 0x06, 0xC6, 0x38, 0x4A]) State.reset)
    (fun t => t.txb.out == [0xAB, 0xBA, 0x03, 0x16, 0x06, 0x05, 0x20, 0x06, 0xC6, 0x38, 0x4A, 0x84]) = true := by
  decide  -- E5
theorem test_read_sector : ends (exec (.cmdReadSector 0 0x01 0x00 0x0A pw) State.reset)
    (fun t => t.txb.out == [0xAB, 0xBA, 0x00, 0x12, 0x09, 0x01, 0x00, 0x0A] ++ pw ++ [0x10]) = true := by
  decide  -- E3
theorem test_read_sector_bad_password : ends (exec (.cmdReadSector 0 0x01 0x00 0x0A [0xFF]) State.reset)
    (fun t => t.txb == Txb.reset && t.catalog == .rejected (.invalidArgument (.passwordLength 1))) = true := by
  decide  -- S7
theorem test_write_sector : ends (exec (.cmdWriteSector 0 0x01 0x00 0x0A pw [0x01, 0x02]) State.reset)
    (fun t => t.txb.out == [0xAB, 0xBA, 0x00, 0x14, 0x0B, 0x01, 0x00, 0x0A] ++ pw ++ [0x01, 0x02, 0x17]) = true := by
  decide  -- E11
theorem test_change_password : ends (exec (.cmdChangePassword 0 0x01 0x0A pw [1, 2, 3, 4, 5, 6]) State.reset)
    (fun t => t.txb.out == [0xAB, 0xBA, 0x00, 0x14, 0x0E, 0x01, 0x0A] ++ pw ++ [1, 2, 3, 4, 5, 6, 0x16]) = true := by
  decide  -- E12
theorem test_change_password_bad_new : ends (exec (.cmdChangePassword 0 0x01 0x0A pw []) State.reset)
    (fun t => t.txb == Txb.reset && t.catalog == .rejected (.invalidArgument (.newPasswordLength 0))) = true := by
  decide  -- S7
theorem test_read_all_blocks : ends (exec (.cmdReadAllBlocks 0 0x0A pw) State.reset)
    (fun t => t.txb.out == [0xAB, 0xBA, 0x00, 0x17, 0x07, 0x0A] ++ pw ++ [0x1A]) = true := by decide  -- E6
theorem test_read_all_blocks_bad_group : ends (exec (.cmdReadAllBlocks 0 0x0C pw) State.reset)
    (fun t => t.txb == Txb.reset && t.catalog == .rejected (.invalidArgument (.groupRange 0x0C))) = true := by
  decide  -- R178
theorem test_write_tag_sector : ends (exec (.cmdWriteTagSector 0 [1]) State.reset)
    (fun t => t.txb == Txb.reset && t.catalog == .rejected .notImplemented) = true := by decide  -- R180
theorem test_status_ok : ends (exec (.statusOk 0x05 [0x00, 0x81]) State.reset)
    (fun t => t.stat == 0x0003 && t.rxv.cnt == 6 && t.rxv.rxAddr == some 0x05) = true := by decide  -- V4
theorem test_status_ok_slice_too_long : ends (exec (.statusOk 0x00 [0x02, 0x83]) State.reset)
    (fun t => t.stat == 0x0005) = true := by decide  -- V18
theorem test_status_fail : ends (exec (.statusFail 0x00 [0x00, 0x80]) State.reset)
    (fun t => t.stat == 0x000B && t.rxv.plen == 0) = true := by decide  -- V3
theorem test_status_fail_as_printed : ends (exec (.statusFail 0x00 [0x00, 0xA7]) State.reset)
    (fun t => t.stat == 0x0007 && t.rxv.acc == 0x27) = true := by decide  -- V6
-- a call by name carries arguments that no frame shows: a Change Password whose old password has five bytes
-- is rejected and nothing is sent (R175, R181)
theorem test_invoke_change_password_short :
    ends (step (State.reset.present (.invoke (.changePassword 0 0x01 0x0A [0xFF, 0xFF, 0xFF, 0xFF, 0xFF] pw))))
      (fun t => t.txb == Txb.reset && t.catalog == .rejected (.invalidArgument (.oldPasswordLength 5))) = true := by
  decide
-- a request in flight: a second call is turned away and emits nothing (R187)
theorem test_second_call_turned_away : ends (exec (.cmdReadUid 0) (State.reset.setRequest .listening))
    (fun t => t.txb == Txb.reset && t.request == .listening && t.catalog == .turnedAway) = true := by decide
-- a verdict that stood before the request is not its reply; the buffer opened after it is (R182, S1)
theorem test_stale_verdict_is_no_reply :
    ends (step (((closed v2 0 .vOk 0).setRequest .sent).present (.word 0x0000000)))
      (fun t => t.request == .sent && catalogReturn t == none) = true := by decide
-- on V_OK the payload is awaited, and the last PAYRD completes it (R182, S1)
theorem test_payload_is_awaited : ends (step ((State.reset.setRequest .sent).present (.buffer v1)))
    (fun t => t.request == .reading [] && catalogReturn t == none) = true := by decide
theorem test_last_payrd_returns_payload :
    ends (step (((closed v1 0 .vOk 4).setRequest (.reading [0xDE, 0xAD, 0xBE])).present (.word 0xB030000)))
      (fun t => t.request == .idle && catalogReturn t == some (.ok [0xDE, 0xAD, 0xBE, 0xEF])
        && t.rxv.rdData == 0xEF && t.rxv.rdOk) = true := by decide
-- an empty payload has no PAYRD (V2), a failure returns its error at once, no raw byte read yet (V3)
theorem test_empty_reply_is_returned : ends (step ((State.reset.setRequest .sent).present (.buffer v2)))
    (fun t => t.request == .idle && catalogReturn t == some (.ok [])) = true := by decide
theorem test_failure_reply_is_returned :
    ends (step ((State.reset.setRequest .listening).present (.buffer [0xCD, 0xDC, 0x00, 0x80, 0x00, 0x80])))
      (fun t => t.request == .idle && catalogReturn t == some (.error (.operationFailed []))
        && t.rxv.rdOk == false) = true := by
  decide
-- the raw bytes come from RD_DATA: RXRD 5 of V25 gives 01, RXRD 8 is refused and gives none (R129, R226; log 23)
theorem test_raw_byte_is_read : ends (step ((failed [(0, 0xCD)]).present (.word 0xA000005)))
    (fun t => catalogReturn t == some (.error (.operationFailed [(0, 0xCD), (5, 0x01)]))
      && t.rxv.rdData == 0x01 && t.rxv.rdOk) = true := by decide
theorem test_raw_read_refused : ends (step ((failed []).present (.word 0xA000008)))
    (fun t => t.catalog == .opFailed [] && t.rxv.rdOk == false) = true := by decide
-- after RXCLR the error keeps what was read
theorem test_raw_is_kept : ends (step ((failed [(5, 0x01)]).present (.word 0x7000000)))
    (fun t => t.catalog == .returned (.error (.operationFailed [(5, 0x01)]))) = true := by decide
-- a failed reply need not be cleared before the next call is sent (R182)
theorem test_call_after_failure : ends (exec (.cmdReadUid 0) (failed []))
    (fun t => t.request == .sent && t.txb.out == [0xAB, 0xBA, 0x00, 0x12, 0x00, 0x12]) = true := by decide
-- clearing before the payload is read loses the reply (log 22)
theorem test_cleared_reply_is_lost :
    ends (step (((closed v1 0 .vOk 4).setRequest (.reading [0xDE])).present (.word 0x7000000)))
      (fun t => t.request == .idle && t.catalog == .replyLost && catalogReturn t == none) = true := by decide
-- a failed read ends the request with the transport's error unchanged, and the block is not told (R198)
theorem test_transport_failure :
    ends (step ((State.reset.setRequest .listening).present (.transportFailed (.readFailed 7))))
      (fun t => catalogReturn t == some (.error (.transportError (.readFailed 7))) && t.rxv == Rxv.reset) = true := by
  decide
-- an inbound buffer that matches no row is judged too (V22)
theorem test_other_buffer : ends (step (State.reset.present (.buffer [0xCD, 0xDD, 0x00, 0x81, 0x00, 0x81])))
    (fun t => t.stat == 0x0009) = true := by decide
-- the canonical form holds at reset and of a test state
theorem test_memory_wf : State.reset.rxv.buf.wf = true ∧ (holding v1 0).rxv.buf.wf = true := by decide
-- P21, P22: the two literals of the packer separate the variants
theorem test_pack_variants : packWith { idBit := 15, oddLow := .byte3 } 0x00 0x8000 = ⟨0x20, 0x06, 0x01, 0x00, 0x01⟩
    ∧ packWith { idBit := 13, oddLow := .idLow } 0x00 0x2000 = ⟨0x20, 0x06, 0x01, 0x40, 0x01⟩ := by decide

/-! ## Witnesses: states and operands that meet the hypotheses of the obligations -/

/-- A closed, successful validator (V1) satisfies the invariant. -/
theorem v1_inv : (closed v1 0 .vOk 4).rxv.Inv :=
  ⟨by decide, by decide, by decide, by decide, by decide, by decide, by decide, by decide⟩

/-- An open validator that holds four bytes satisfies the invariant. -/
theorem open_inv : (holding [0xCD, 0xDC, 0x00, 0x81] 0x81).rxv.Inv :=
  ⟨by decide, by decide, by decide, by decide, by decide, by decide, by decide, by decide⟩

/-- The reset state satisfies the invariant. -/
theorem reset_inv : State.reset.Inv :=
  ⟨⟨by decide, by decide, by decide, by decide, by decide, by decide, by decide, by decide⟩,
    ⟨by decide⟩, ⟨by decide⟩, by decide, (fun _ h => nomatch h), (fun _ h => nomatch h)⟩

/-- A state that reads a payload (V1, two bytes read) satisfies the invariant. -/
theorem reading_inv : ((closed v1 0 .vOk 4).setRequest (.reading [0xDE, 0xAD])).Inv :=
  ⟨v1_inv, ⟨by decide⟩, ⟨by decide⟩, (fun h => nomatch h),
    (fun got h => by cases h; decide), (fun _ h => nomatch h)⟩

/-- A state whose call failed (V25, one raw byte read) satisfies the invariant. -/
theorem failed_inv : (failed [(5, 0x01)]).Inv :=
  ⟨⟨by decide, by decide, by decide, by decide, by decide, by decide, by decide, by decide⟩,
    ⟨by decide⟩, ⟨by decide⟩, (fun h => nomatch h), (fun _ h => nomatch h), fun raw h => by
      cases h
      refine ⟨rfl, rfl, rfl, rfl, fun k v hk => ?_⟩
      simp only [Memory.read] at hk
      split at hk
      · subst_vars; exact hk
      · cases hk⟩

theorem witness_StepRunsPresentedInstruction : ∃ (s t : State) (item : Issue) (rest : List Issue) (i : Instr),
    s.issue = item :: rest ∧ decode item = .instr i ∧ exec i (s.setIssue rest) = .next t ∧ t.request = .idle
      ∧ ∀ raw, t.catalog ≠ .opFailed raw :=
  ⟨State.reset.setIssue [.word 0x3810000, .word 0], _, .word 0x3810000, [.word 0], .xabs 0x81, rfl, by decide,
    rfl, rfl, (fun _ h => nomatch h)⟩
theorem witness_IdleStepHoldsState : State.reset.issue = [] := rfl
theorem witness_PresentedStreamRunsInOrder :
    ∀ i ∈ [Instr.cmdReadId 0, .rxb 0xCD, .statusOk 0 [0, 0x81]], i.wellFormed = true := by decide
theorem witness_AnyPresentedBufferIsJudged :
    (State.reset.setIssue [.buffer [0xCD], .buffer v1]).issue = .buffer [0xCD] :: [.buffer v1]
      ∧ State.reset.request = .idle ∧ ∀ raw, State.reset.catalog ≠ .opFailed raw :=
  ⟨rfl, rfl, (fun _ h => nomatch h)⟩
theorem witness_DecodeEncodeRoundTrip :
    (Instr.cmdWriteSector 0 0 0 0 pw (List.replicate 246 0)).wellFormed = true
      ∧ (Instr.cmdReadSector 0 0 0 0 (List.replicate 252 0)).wellFormed = true
      ∧ (Instr.cmdChangePassword 0 0 0 pw pw).wellFormed = true
      ∧ (Instr.cmdWriteUid 0 (List.replicate 255 0)).wellFormed = true
      ∧ (Instr.cmdWriteChipId 0 (List.replicate 254 0)).wellFormed = true
      ∧ (Instr.cmdReadAllBlocks 0 0 (List.replicate 254 0)).wellFormed = true
      ∧ (Instr.cmdWriteTagSector 0 (List.replicate 255 0)).wellFormed = true := by decide +kernel
theorem witness_WrittenLinesReadBack : encode (.rxrd 0x1FF) = .word 0xA0001FF ∧ Instr.rxrd 0x1FF ≠ .reservedD
    ∧ Instr.rxrd 0x1FF ≠ .reservedE ∧ Instr.rxrd 0x1FF ≠ .reservedF := by decide
theorem witness_UnusedFieldsAreIgnored :
    (0x9 : BitVec 4) ∈ ([0x0, 0x1, 0x2, 0x6, 0x7, 0x9, 0xD, 0xE, 0xF] : List (BitVec 4))
      ∧ (0xB : BitVec 4) ∈ ([0x3, 0x5, 0x8, 0xB] : List (BitVec 4))
      ∧ (0xC : BitVec 4) ∈ ([0x4, 0xC] : List (BitVec 4)) := by decide
theorem witness_EveryWordMatchesItsRow : opField 0xD123456 = 0xD ∧ opField 0xFFFFFFF = 0xF := by decide
theorem witness_NopChangesNothing : (0x0FFFFFF : OpWord).toNat < 0x1000000 := by decide
theorem witness_ReservedCodesOnlySetOpErr : ∃ s t : State, Instr.xclr ≠ .reset ∧ exec .xclr s = .next t
    ∧ s.opErr = true := ⟨State.reset.setOpErr true, _, by decide, rfl, rfl⟩
theorem witness_ChecksumSequenceGivesXor8 : ([0x81, 0x04] : List Byte).Perm [0x04, 0x81]
    ∧ [Instr.rxclr, .xclr, .xabs 0x81, .rxb 0xCD, .xabs 0x04].filter touchesChk = checksumOps [0x81, 0x04]
    ∧ ∃ t, execList [.rxclr, .xclr, .xabs 0x81, .rxb 0xCD, .xabs 0x04] State.reset = .next t :=
  ⟨by decide, by decide, _, rfl⟩
theorem witness_ChecksumLaws : ([1, 2, 3] : List Byte).Perm [3, 1, 2] ∧ (0x00 : Byte) ≠ 0x80 := by decide
theorem witness_TxbeginStartsOrIsRefused :
    State.reset.txb.busy = false ∧ (building [0xAB] 2 0x10).txb.busy = true := by decide
theorem witness_TxpaySuppliesOrIsRefused :
    ((building [] 1 0).txb.busy = true ∧ (building [] 1 0).txb.rem = 1)
      ∧ ((building [] 255 0).txb.busy = true ∧ (building [] 255 0).txb.rem ≠ 1)
      ∧ ((building [] 2 0).txb.busy = true ∧ (building [] 2 0).txb.rem ≠ 1)
      ∧ State.reset.txb.busy = false := by decide
theorem witness_EncodeSequenceBuildsFrame :
    (List.replicate 255 (0 : Byte)).length ≤ 255 ∧ State.reset.txb.busy = false := by decide +kernel
theorem witness_InterleavedEncodeBuildsFrame : ([0x01] : List Byte).length ≤ 255 ∧ State.reset.txb.busy = false
    ∧ [Instr.rxclr, .txbegin 0 0x11 1, .xabs 3, .txpay 0x01, .nop].filter touchesTxb = encodeOps 0 0x11 [0x01]
    ∧ (∃ t, execList [.rxclr, .txbegin 0 0x11 1, .xabs 3, .txpay 0x01, .nop] State.reset = .next t)
    ∧ State.reset.rxv.Inv := ⟨by decide, by decide, by decide, ⟨_, rfl⟩, reset_inv.rxv⟩
theorem witness_FrameSizesAndFields : (List.replicate 255 (0 : Byte)).length ≤ 255 := by decide +kernel
theorem witness_BuilderFramesAreNeverAccepted : ([] : List Byte).length ≤ 255
    ∧ (List.replicate 255 (0 : Byte)).length ≤ 255 := by decide +kernel
-- the clauses of RXB meet at RX_CNT 2 and 3, and at 260 and 261
theorem witness_RxbStoresSumsOrDrops :
    (∀ c ∈ ([2, 3, 260, 261] : List BufAddr), (State.reset.setRxv { Rxv.reset with cnt := c }).rxv.done = false)
      ∧ (2 : BufAddr).toNat < 3 ∧ 3 ≤ (3 : BufAddr).toNat ∧ (260 : BufAddr).toNat < 261
      ∧ 261 ≤ (261 : BufAddr).toNat ∧ (closed v2 0 .vOk 0).rxv.done = true := by decide
theorem witness_RxendFormsVerdict : ((holding [0xCD, 0xDC, 0x00, 0x81] 0x81).rxv.Inv
    ∧ (holding [0xCD, 0xDC, 0x00, 0x81] 0x81).rxv.done = false) ∧ (closed v2 0 .vOk 0).rxv.done = true :=
  ⟨⟨open_inv, by decide⟩, by decide⟩
-- RX_CNT is 10: the last readable address is 9, the first refused one 10
theorem witness_RxrdReadsClosedBuffer : ((closed v1 0 .vOk 4).rxv.Inv ∧ (closed v1 0 .vOk 4).rxv.done = true
    ∧ (9 : BufAddr).toNat < (closed v1 0 .vOk 4).rxv.cnt.toNat)
    ∧ (closed v1 0 .vOk 4).rxv.cnt.toNat ≤ (10 : BufAddr).toNat ∧ State.reset.rxv.done = false :=
  ⟨⟨v1_inv, by decide, by decide⟩, by decide, by decide⟩
-- RX_PLEN is 4: the last readable index is 3, the first refused one 4
theorem witness_PayrdReadsPayload : ((closed v1 0 .vOk 4).rxv.Inv ∧ (closed v1 0 .vOk 4).rxv.verdict = .vOk
    ∧ (3 : Byte).toNat < (closed v1 0 .vOk 4).rxv.plen.toNat)
    ∧ (closed v1 0 .vOk 4).rxv.plen.toNat ≤ (4 : Byte).toNat ∧ State.reset.rxv.verdict ≠ .vOk :=
  ⟨⟨v1_inv, by decide, by decide⟩, by decide, by decide⟩
theorem witness_UnwrittenReadsFault :
    let s := State.reset.setRxv { Rxv.reset with done := true, cnt := 8, verdict := .vOk, plen := 2 }
    (s.rxv.done = true ∧ (7 : BufAddr).toNat < s.rxv.cnt.toNat ∧ s.rxv.buf.read (7 : BufAddr).toNat = none)
      ∧ (s.rxv.verdict = .vOk ∧ (1 : Byte).toNat < s.rxv.plen.toNat
        ∧ s.rxv.buf.read (5 + (1 : Byte).toNat) = none) := by decide
theorem witness_InterleavedDecodeReportsOutcome :
    [Instr.xclr, .rxclr, .rxrd 0, .rxb 0xCD, .txclr, .rxend, .payrd 0].filter touchesBuffer = decodeOps [0xCD]
      ∧ (∃ t, execList [.xclr, .rxclr, .rxrd 0, .rxb 0xCD, .txclr, .rxend, .payrd 0] State.reset = .next t)
      ∧ State.reset.rxv.Inv := ⟨by decide, ⟨_, rfl⟩, reset_inv.rxv⟩
theorem witness_WellFormedFramesAreClassified : (List.replicate 255 (0 : Byte)).length ≤ 255 := by decide +kernel
-- the first and the last index of V1 that the checksum covers
theorem witness_SingleByteCorruptionIsDetected : 4 ≤ v1.length ∧ frameDecode v1 ≠ .checksumMismatch
    ∧ (3 ≤ 3 ∧ 3 < v1.length ∧ v1[3]? ≠ some 0x80) ∧ (3 ≤ 9 ∧ 9 < v1.length ∧ v1[9]? ≠ some 0xA6) := by decide
theorem witness_AddressByteIsNotTested : 2 < ([0xCD, 0xDC, 0x00] : List Byte).length ∧ 2 < v1.length := by decide
theorem witness_ShortBufferOutcomes : frameDecode v17 = .success [0x80] ∧ v17.length = 6 := by decide
theorem witness_LengthByteIsOnlyABound : (List.replicate 255 (0 : Byte)).length ≤ 255
    ∧ (List.replicate 254 (0 : Byte)).length ≤ 254
    ∧ 6 + ([] : List Byte).length < 5 + (0x02 : Byte).toNat := by decide +kernel
theorem witness_PayloadReadsBack : frameDecode v1 = .success [0xDE, 0xAD, 0xBE, 0xEF]
    ∧ (∀ p, frameDecode [0xCD] ≠ .success p) := ⟨by decide, fun _ => by simp [frameDecode, Config.rxMin]⟩
theorem witness_ClosedBufferIsFrozen : (∃ t, exec (.rxb 0x55) (closed v2 0 .vOk 0) = .next t)
    ∧ (closed v2 0 .vOk 0).rxv.done = true
    ∧ (∃ t, exec .rxend (holding v2 0) = .next t ∧ (holding v2 0).rxv.done = false ∧ t.rxv.done = true)
    ∧ (∃ t, exec .rxclr (closed v2 0 .vOk 0) = .next t) :=
  ⟨⟨_, rfl⟩, by decide, ⟨closed v2 0 .vOk 0, rfl, rfl, rfl⟩, ⟨_, rfl⟩⟩
theorem witness_PackIsInjective : pack 0xFF 0xFFFF = pack 0xFF 0xFFFF := rfl
theorem witness_DecodeSequenceReportsOutcome : (closed v1 0 .vOk 4).rxv.Inv
    ∧ 5 ≤ (closed v1 0 .vOk 4).rxv.cnt.toNat ∧ State.reset.rxv.Inv ∧ State.reset.rxv.cnt.toNat < 3 :=
  ⟨v1_inv, by decide, reset_inv.rxv, by decide⟩
theorem witness_PlainCallsSendTheirFrame : State.reset.txb.busy = false ∧ State.reset.request = .idle
    ∧ (List.replicate 255 (0 : Byte)).length ≤ 255 ∧ (List.replicate 254 (0 : Byte)).length ≤ 254 := by decide +kernel
theorem witness_PasswordCallsSendTheirFrame : State.reset.txb.busy = false ∧ State.reset.request = .idle ∧ pw.length = 6
    ∧ (List.replicate 246 (0 : Byte)).length ≤ 246 := by decide +kernel
theorem witness_CallsIssueExactlyEncode : pw.length = 6 ∧ (List.replicate 255 (0 : Byte)).length ≤ 255
    ∧ (List.replicate 254 (0 : Byte)).length ≤ 254 ∧ (List.replicate 246 (0 : Byte)).length ≤ 246 := by decide +kernel
-- passwords of 5 and 7 bytes, and the longest whose payload still fits the length byte
theorem witness_BadArgumentsNeverReachTheWire : (pw ++ [0]).length ≠ 6 ∧ (pw.drop 1).length ≠ 6 ∧ pw.length = 6
    ∧ 3 + (List.replicate 252 (0 : Byte)).length ≤ 255
    ∧ 3 + (pw ++ [0]).length + (List.replicate 245 (0 : Byte)).length ≤ 255
    ∧ 2 + (List.replicate 247 (0 : Byte)).length + 6 ≤ 255 ∧ 1 + (List.replicate 254 (0 : Byte)).length ≤ 255
    ∧ (0x09 : Byte) ≠ 0x0A ∧ (0x09 : Byte) ≠ 0x0B ∧ (0x0C : Byte) ≠ 0x0A ∧ (0x0C : Byte) ≠ 0x0B := by
  decide +kernel
theorem witness_OversizedPayloadsAreRejected : pw.length = 6 ∧ 255 < (List.replicate 256 (0 : Byte)).length
    ∧ 254 < (List.replicate 255 (0 : Byte)).length ∧ 246 < (List.replicate 247 (0 : Byte)).length
    ∧ (pw.drop 1).length ≠ 6 ∧ (0x09 : Byte) ≠ 0x0A ∧ (0x09 : Byte) ≠ 0x0B := by decide +kernel
theorem witness_CallsReturnTheirReply :
    ((NamedCall.readId 0).payload = .ok [] ∧ State.reset.request = .idle ∧ State.reset.txb.busy = false)
      ∧ (∀ i ∈ [Instr.rxb 0xCD, .rxend, .txclr], notice i ≠ .opened ∧ isCall i = false)
      ∧ (∃ t, runList [.cmdReadId 0, .rxb 0xCD, .rxend, .txclr] (closed v2 0 .vOk 0) = .next t)
      ∧ (NamedCall.readAllBlocks 0 0x0C pw).payload = .error (.invalidArgument (.groupRange 0x0C))
      ∧ (State.reset.setIssue [.transportFailed (.writeFailed 1)]).issue = .transportFailed (.writeFailed 1) :: []
      ∧ (State.reset.setRequest .listening).request ≠ .idle
      ∧ frameDecode v1 = .success [0xDE, 0xAD, 0xBE, 0xEF]
      ∧ (((closed v1 0 .vOk 4).setRequest (.reading [0xDE])).request = .reading [0xDE] ∧ notice .rxclr = .opened
        ∧ ∃ u, exec .rxclr ((closed v1 0 .vOk 4).setRequest (.reading [0xDE])) = .next u)
      ∧ frameDecode v25 = .operationFailed v25
      ∧ ((failed [(5, 0x01)]).request = .idle ∧ (failed [(5, 0x01)]).catalog = .opFailed [(5, 0x01)]
        ∧ ∃ u, exec .rxclr (failed [(5, 0x01)]) = .next u) :=
  ⟨by decide, by decide, ⟨_, rfl⟩, by decide, rfl, by decide, by decide, ⟨rfl, rfl, ⟨_, rfl⟩⟩, by decide,
    rfl, rfl, ⟨_, rfl⟩⟩
-- a PAYRD while a payload is read, an RXRD after a failure: steps of the catalog's own clauses
theorem witness_StepKeepsInvariant :
    (∃ s t : State, s.Inv ∧ step s = .next t ∧ s.request = .reading [0xDE, 0xAD]
      ∧ t.request = .reading [0xDE, 0xAD, 0xBE])
    ∧ (∃ s t : State, s.Inv ∧ step s = .next t ∧ s.catalog = .opFailed [(5, 0x01)]
      ∧ t.catalog = .opFailed [(0, 0xCD), (5, 0x01)]) :=
  ⟨⟨(((closed v1 0 .vOk 4).setRequest (.reading [0xDE, 0xAD])).present (.word 0xB020000)), _,
      ⟨reading_inv.rxv, reading_inv.txb, reading_inv.cnp, reading_inv.listening_open, reading_inv.reading_prefix,
        reading_inv.raw_read⟩, rfl, rfl, rfl⟩,
    ⟨((failed [(5, 0x01)]).present (.word 0xA000000)), _,
      ⟨failed_inv.rxv, failed_inv.txb, failed_inv.cnp, failed_inv.listening_open, failed_inv.reading_prefix,
        failed_inv.raw_read⟩, rfl, rfl, rfl⟩⟩
theorem witness_ReachableStatesSatisfyListedInvariants : ∃ t,
    Host.Core.run Sys2Proof.core 1 (State.reset.setIssue [.buffer v2]) = .next t :=
  ⟨(closed v2 0 .vOk 0), rfl⟩
theorem witness_StepNeverFaultsUnderInvariant : State.reset.Inv := reset_inv
theorem witness_OperationsOfDifferentUnitsCommute :
    part (.cmdReadId 0) ∈ [Part.chk, .txb, .rxv, .cnp] ∧ part (.rxb 0) ∈ [Part.chk, .txb, .rxv, .cnp]
      ∧ part (.cmdReadId 0) ≠ part (.rxb 0) := by decide
theorem witness_OnlyTheOwnUnitChanges : ∃ t, exec (.txbegin 0 0x15 0) State.reset = .next t
    ∧ isCall (.txbegin 0 0x15 0) = false ∧ Instr.txbegin 0 0x15 0 ≠ .reset := ⟨_, rfl, by decide, by decide⟩
theorem witness_EmittedBytesStaySent : (∃ t, Instr.txclr ≠ .reset ∧ exec .txclr (building [0xAB] 1 0) = .next t)
    ∧ ∃ t, exec .reset (building [0xAB] 1 0) = .next t := ⟨⟨_, by decide, rfl⟩, ⟨_, rfl⟩⟩
theorem witness_StickyFlagsStaySet :
    (∃ s t : State, exec .rxend s = .next t ∧ s.rxv.drop = true)
      ∧ (∃ s t : State, exec (.rxb 0x55) s = .next t ∧ s.rxv.drop = false ∧ t.rxv.drop = true)
      ∧ (∃ s t : State, exec (.txpay 0x11) s = .next t ∧ s.txb.err = false ∧ t.txb.err = true)
      ∧ (∃ s t : State, exec (.txbegin 0 0x15 0) s = .next t ∧ s.txb.err = true)
      ∧ (∃ s t : State, exec (.cmdReadId 0) s = .next t ∧ s.txb.err = false ∧ t.txb.err = true) :=
  ⟨⟨(closed v2 0 .vOk 0).setRxv (closed v2 0 .vOk 0).rxv.refuseDrop, _, rfl, rfl⟩,
    ⟨closed v2 0 .vOk 0, _, rfl, rfl, rfl⟩, ⟨State.reset, _, rfl, rfl, rfl⟩,
    ⟨State.reset.setTxb State.reset.txb.refuseErr, _, rfl, rfl⟩, ⟨building [0xAB] 2 0x10, _, rfl, rfl, rfl⟩⟩

end Sys2Proof.Tests
end

section
/-! PROOFS. Facts about the validator that every later proof about it needs: RXCLR and RXB keep its
invariant, and under the invariant RXEND, RXRD, PAYRD and DECODE read written locations only (R52). -/

namespace Sys2Proof.Machine

/-! ## RXBUF while it lists the locations below RX_CNT -/

theorem Memory.exists_read_of_lt {m : Memory} {n k : Nat} (h : m.map Prod.fst = List.range n) (hk : k < n) :
    ∃ v, m.read k = some v := by
  have hlen : k < m.bytes.length := by rwa [Memory.length_bytes h]
  exact ⟨m.bytes[k], by rw [Memory.read_range h, List.getElem?_eq_getElem hlen]⟩

theorem Memory.exists_fetch_of_lt {m : Memory} {n k : Nat} (h : m.map Prod.fst = List.range n) (hk : k < n) :
    ∃ v, m.fetch k = .ok v :=
  (Memory.exists_read_of_lt h hk).imp fun _ => Memory.fetch_of_read

theorem Memory.write_next_listed {m : Memory} {n : Nat} (v : Byte) (h : m.map Prod.fst = List.range n) :
    (m.write n v).map Prod.fst = List.range (n + 1) := by
  rw [Memory.write_range v h, List.map_append, h, List.range_succ, List.map_singleton]

theorem Memory.write_next_bytes {m : Memory} {n : Nat} (v : Byte) (h : m.map Prod.fst = List.range n) :
    (m.write n v).bytes = m.bytes ++ [v] := by
  rw [Memory.write_range v h, Memory.bytes, List.map_append, List.map_singleton, Memory.bytes]

/-! ## RXCLR and RXB keep the invariant -/

/-- Of an open validator only the clauses about the buffer and the accumulator say anything. -/
theorem Rxv.Inv.of_open {r : Rxv} (hdone : r.done = false) (hverdict : r.verdict = .vNone)
    (hplen : r.plen = 0x00) (hlisted : r.buf.map Prod.fst = List.range r.cnt.toNat)
    (hcnt : r.cnt.toNat ≤ Config.rxbufDepth) (hovf : r.ovf = true → r.cnt.toNat = Config.rxbufDepth)
    (hacc : r.ovf = false → r.acc = xor8 (r.buf.bytes.drop Config.rxCkFirst)) : r.Inv where
  listed := hlisted
  cnt_le := hcnt
  ovf_full := hovf
  acc_eq := hacc
  open_none _ := ⟨hverdict, hplen⟩
  closed_some h := by simp [hdone] at h
  plen_ok h := absurd hplen h
  ok_facts h := by simp [hverdict] at h

theorem Rxv.clear_inv (r : Rxv) : r.clear.Inv :=
  .of_open rfl rfl rfl rfl (by simp) (by simp) (fun _ => rfl)

theorem Rxv.refuseDrop_inv {r : Rxv} (hi : r.Inv) : r.refuseDrop.Inv :=
  ⟨hi.listed, hi.cnt_le, hi.ovf_full, hi.acc_eq, hi.open_none, hi.closed_some, hi.plen_ok, hi.ok_facts⟩

/-- RX_CNT has room for one more while it is below 261: the 9-bit sum does not wrap (log 2). -/
theorem cnt_succ_toNat {cnt : BufAddr} (h : cnt.toNat < Config.rxbufDepth) :
    (cnt + 1).toNat = cnt.toNat + 1 := by
  simp only [Config.rxbufDepth] at h
  exact BitVec.toNat_add_of_lt (show cnt.toNat + 1 < 2 ^ 9 by omega)

/-- Storing a byte keeps the invariant when the accumulator goes on summing the bytes from index 3. -/
theorem Rxv.store_inv {r : Rxv} {d acc : Byte} (hi : r.Inv) (hd : r.done = false)
    (hc : r.cnt.toNat < Config.rxbufDepth)
    (hacc : r.ovf = false → acc = xor8 ((r.buf.bytes ++ [d]).drop Config.rxCkFirst)) :
    Rxv.Inv { r with buf := r.buf.write r.cnt.toNat d, cnt := r.cnt + 1, acc := acc } := by
  have hcnt := cnt_succ_toNat hc
  obtain ⟨hverdict, hplen⟩ := hi.open_none hd
  refine .of_open hd hverdict hplen ?_ (by simp only [hcnt]; omega) (fun ho => ?_) (fun ho => ?_)
  · simpa only [hcnt] using Memory.write_next_listed d hi.listed
  · have := hi.ovf_full ho
    omega
  · simpa only [Memory.write_next_bytes d hi.listed] using hacc ho

theorem Rxv.present_inv {r : Rxv} (d : Byte) (hi : r.Inv) : (r.present d).Inv := by
  have hlen := Memory.length_bytes hi.listed
  rcases r.present_cases d with ⟨_, h⟩ | ⟨hd, hc, h⟩ | ⟨hd, hck, hc, h⟩ | ⟨hd, hc, h⟩ <;> rw [h]
  case inl => exact Rxv.refuseDrop_inv hi
  case inr.inl =>
    refine Rxv.store_inv hi hd (hc.trans (by decide)) fun ho => ?_
    rw [hi.acc_eq ho, List.drop_of_length_le (by omega), List.drop_of_length_le (by simp; omega)]
  case inr.inr.inl =>
    refine Rxv.store_inv hi hd hc fun ho => ?_
    rw [List.drop_append_of_le_length (by omega), xor8_concat, hi.acc_eq ho]
  case inr.inr.inr =>
    obtain ⟨hverdict, hplen⟩ := hi.open_none hd
    exact .of_open hd hverdict hplen hi.listed hi.cnt_le (fun _ => le_antisymm hi.cnt_le hc) nofun

theorem Rxv.foldl_present_inv {r : Rxv} (b : List Byte) (hi : r.Inv) : (b.foldl Rxv.present r).Inv := by
  induction b generalizing r with
  | nil => exact hi
  | cons d b ih => exact ih (Rxv.present_inv d hi)

/-! ## Under the invariant nothing unwritten is read -/

/-- The length byte of a buffer with status 0x81 is written once the size and checksum tests have passed:
a buffer of four bytes would sum its status byte alone, and that sum is not 0x00 (R131). -/
theorem Rxv.length_written {r : Rxv} (hi : r.Inv) (hmin : Config.rxMin ≤ r.cnt.toNat) (hacc : r.acc = 0x00)
    (hstatus : r.buf.read 3 = some Config.stOk) : 4 < r.cnt.toNat := by
  by_contra hle
  have hcnt : r.cnt.toNat = 4 := le_antisymm (not_lt.1 hle) hmin
  have hlen : r.buf.bytes.length = 4 := (Memory.length_bytes hi.listed).trans hcnt
  have hovf : r.ovf = false := by
    by_contra ho
    have := hi.ovf_full (by simpa using ho)
    simp [hcnt, Config.rxbufDepth] at this
  have hlast : r.buf.bytes.drop 3 = [Config.stOk] := by
    rw [Memory.read_range hi.listed] at hstatus
    obtain ⟨h3, hbyte⟩ := List.getElem?_eq_some_iff.1 hstatus
    rw [List.drop_eq_getElem_cons h3, hbyte, List.drop_of_length_le (by omega)]
  have hsum : r.acc = xor8 [Config.stOk] := hlast ▸ hi.acc_eq hovf
  exact absurd (hsum.symm.trans hacc) (by decide)

/-- The tests of R131 read locations 0, 1, 3 and 4, each written by the time it is read. -/
theorem Rxv.exists_verdict {r : Rxv} (hi : r.Inv) : ∃ v, verdictOf r.cnt r.acc r.buf = .ok v := by
  unfold verdictOf
  split
  · exact ⟨_, rfl⟩
  next hmin =>
  have hmin : Config.rxMin ≤ r.cnt.toNat := not_lt.1 hmin
  have fetch_header : ∀ k < 4, ∃ v, r.buf.fetch k = .ok v := fun k hk =>
    Memory.exists_fetch_of_lt hi.listed (hk.trans_le hmin)
  split
  · exact ⟨_, rfl⟩
  next hacc =>
  obtain ⟨b0, h0⟩ := fetch_header 0 (by decide)
  obtain ⟨b1, h1⟩ := fetch_header 1 (by decide)
  obtain ⟨status, h3⟩ := fetch_header 3 (by decide)
  simp only [h0, h1, h3, Except.bind]
  split
  · exact ⟨_, rfl⟩
  split
  next hok =>
    have hlen := Rxv.length_written hi hmin (not_not.1 hacc) (hok ▸ Memory.fetch_eq_ok.1 h3)
    obtain ⟨len, h4⟩ := Memory.exists_fetch_of_lt hi.listed hlen
    simp only [h4]
    split <;> exact ⟨_, rfl⟩
  · split <;> exact ⟨_, rfl⟩

/-- V_OK is formed only after the length byte was read, so RX_PLEN has its value (R127). -/
theorem exists_verdictLen {cnt : BufAddr} {acc : Byte} {buf : Memory} {v : Verdict}
    (h : verdictOf cnt acc buf = .ok v) : ∃ len, verdictLen v buf = .ok len := by
  unfold verdictLen
  split
  next hok =>
    subst hok
    have h4 : ∃ len, buf.read 4 = some len := by
      rcases verdictOf_cases h with ⟨hv, _⟩ | ⟨_, ⟨hv, _⟩ | ⟨_, _, _, _, _, ⟨hv, _⟩ |
        ⟨_, _, _, _, ⟨_, len, h4, _⟩ | ⟨hv, _⟩ | ⟨hv, _⟩⟩⟩⟩
      case inr.inr.inr.inl => exact ⟨len, h4⟩
      all_goals cases hv
    exact h4.imp fun _ => Memory.fetch_of_read
  · exact ⟨_, rfl⟩

theorem Rxv.exists_close {r : Rxv} (hi : r.Inv) : ∃ r', r.close = .ok r' := by
  unfold Rxv.close
  split
  · exact ⟨r, rfl⟩
  · obtain ⟨v, hv⟩ := Rxv.exists_verdict hi
    obtain ⟨len, hlen⟩ := exists_verdictLen hv
    exact ⟨r.raiseVerdict v len, by simp only [hv, hlen, Except.bind]⟩

theorem Rxv.exists_judge (r : Rxv) (b : List Byte) : ∃ r', r.judge b = .ok r' :=
  Rxv.exists_close (Rxv.foldl_present_inv b r.clear_inv)

theorem Rxv.exists_readRaw {r : Rxv} (hi : r.Inv) (k : BufAddr) : ∃ r', r.readRaw k = .ok r' := by
  unfold Rxv.readRaw
  split
  · next hk =>
    obtain ⟨v, hv⟩ := Memory.exists_fetch_of_lt hi.listed hk.2
    exact ⟨r.latch v, by rw [hv]; rfl⟩
  · exact ⟨_, rfl⟩

theorem Rxv.exists_readPayload {r : Rxv} (hi : r.Inv) (i : Byte) : ∃ r', r.readPayload i = .ok r' := by
  unfold Rxv.readPayload
  split
  · next h =>
    obtain ⟨hok, hlt⟩ := h
    rw [zext9_lt_iff] at hlt
    obtain ⟨-, -, -, -, -, -, hfit⟩ := hi.ok_facts hok
    have hk : (payAddr i).toNat < r.cnt.toNat := by rw [payAddr_toNat]; omega
    obtain ⟨v, hv⟩ := Memory.exists_fetch_of_lt hi.listed hk
    exact ⟨r.latch v, by rw [hv]; rfl⟩
  · exact ⟨_, rfl⟩

end Sys2Proof.Machine
end

section
/-! PROOFS. Once, for every instruction: what it can do to the state (`ExecEffect`), and that it answers a
next state under the invariant of the validator. -/

namespace Sys2Proof.Machine

/-! ## The effect of an instruction -/

/-- Every catalog call has a name (R183), so what is shown of named calls holds of all ten. -/
theorem exists_namedCall {i : Instr} (h : isCall i = true) : ∃ c : NamedCall, c.toInstr = i := by
  cases i with
  | cmdWriteUid addr uid => exact ⟨.writeUid addr uid, rfl⟩
  | cmdReadUid addr => exact ⟨.readUid addr, rfl⟩
  | cmdReadSector addr sector block group password =>
    exact ⟨.readSector addr sector block group password, rfl⟩
  | cmdWriteSector addr sector block group password sectorData =>
    exact ⟨.writeSector addr sector block group password sectorData, rfl⟩
  | cmdChangePassword addr sector group oldPassword newPassword =>
    exact ⟨.changePassword addr sector group oldPassword newPassword, rfl⟩
  | cmdReadId addr => exact ⟨.readId addr, rfl⟩
  | cmdWriteChipId addr id => exact ⟨.writeChipId addr id, rfl⟩
  | cmdReadAllBlocks addr group password => exact ⟨.readAllBlocks addr group password, rfl⟩
  | cmdReadContactlessUid addr => exact ⟨.readContactlessUid addr, rfl⟩
  | cmdWriteTagSector addr raw => exact ⟨.writeTagSector addr raw, rfl⟩
  | nop | reset | xclr | xabs | txbegin | txpay | txclr | rxclr | rxb | rxend | rxrd | payrd | pack
  | reservedD | reservedE | reservedF | statusOk | statusFail => cases h

/-- What an instruction of the builder's own operations can make of TXB (R111, R112, R113). -/
inductive TxbEffect (t : Txb) : Instr → Txb → Prop
  | txbegin (addr cmd n : Byte) : TxbEffect t (.txbegin addr cmd n) (t.start addr cmd n)
  | txpay (d : Byte) : TxbEffect t (.txpay d) (t.pay d)
  | txclr : TxbEffect t .txclr t.clear

/-- What an instruction of the validator can make of RXV, when it does not fault (R126 to R130, R87). -/
inductive RxvEffect (r : Rxv) : Instr → Rxv → Prop
  | rxclr : RxvEffect r .rxclr r.clear
  | rxb (d : Byte) : RxvEffect r (.rxb d) (r.present d)
  | rxend {r' : Rxv} (h : r.close = .ok r') : RxvEffect r .rxend r'
  | rxrd {r' : Rxv} (k : BufAddr) (h : r.readRaw k = .ok r') : RxvEffect r (.rxrd k) r'
  | payrd {r' : Rxv} (i : Byte) (h : r.readPayload i = .ok r') : RxvEffect r (.payrd i) r'
  | statusOk {r' : Rxv} (addr : Byte) (rest : List Byte)
      (h : r.judge ([Config.rxSync0, Config.rxSync1, addr, Config.stOk] ++ rest) = .ok r') :
      RxvEffect r (.statusOk addr rest) r'
  | statusFail {r' : Rxv} (addr : Byte) (rest : List Byte)
      (h : r.judge ([Config.rxSync0, Config.rxSync1, addr, Config.stFail] ++ rest) = .ok r') :
      RxvEffect r (.statusFail addr rest) r'

/-- What an instruction can make of the whole state, when it answers a next one. -/
inductive ExecEffect (s : State) : Instr → State → Prop
  | nop : ExecEffect s .nop s
  | reset : ExecEffect s .reset
      (((State.reset.setIssue s.issue).setRequest s.request).setCatalog s.catalog)
  | xclr : ExecEffect s .xclr (s.setChk s.chk.clear)
  | xabs (d : Byte) : ExecEffect s (.xabs d) (s.setChk (s.chk.add d))
  | pack (f : Byte) (id : Half) :
      ExecEffect s (.pack f id) (s.setCnp { out := Machine.pack f id, valid := true })
  | reserved {i : Instr} (h : part i = .flag) : ExecEffect s i s.refuseOp
  | txb {i : Instr} {t : Txb} (h : TxbEffect s.txb i t) : ExecEffect s i (s.setTxb t)
  | rxv {i : Instr} {r : Rxv} (h : RxvEffect s.rxv i r) : ExecEffect s i (s.setRxv r)
  | call {t : State} (c : NamedCall) (h : catalogCall c.addr c.command c.payload s = .next t) :
      ExecEffect s c.toInstr t

theorem ExecEffect.of_withRxv {s t : State} {i : Instr} {x : Except Fault Rxv}
    (h : s.withRxv x = .next t) (hx : ∀ r, x = .ok r → RxvEffect s.rxv i r) : ExecEffect s i t := by
  obtain ⟨r, hr, rfl⟩ := State.withRxv_eq_next.1 h
  exact .rxv (hx r hr)

theorem ExecEffect.of_isCall {s t : State} {i : Instr} (hi : isCall i = true) (h : exec i s = .next t) :
    ExecEffect s i t := by
  obtain ⟨c, rfl⟩ := exists_namedCall hi
  exact .call c (exec_toInstr c s ▸ h)

/-- Every next state that `exec` answers is one that `ExecEffect` lists. -/
theorem exec_effect {i : Instr} {s t : State} (h : exec i s = .next t) : ExecEffect s i t := by
  cases i with
  | nop => cases h; exact .nop
  | reset => cases h; exact .reset
  | xclr => cases h; exact .xclr
  | xabs d => cases h; exact .xabs d
  | pack f id => cases h; exact .pack f id
  | reservedD | reservedE | reservedF => cases h; exact .reserved rfl
  | txbegin addr cmd n => cases h; exact .txb (.txbegin addr cmd n)
  | txpay d => cases h; exact .txb (.txpay d)
  | txclr => cases h; exact .txb .txclr
  | rxclr => cases h; exact .rxv .rxclr
  | rxb d => cases h; exact .rxv (.rxb d)
  | rxend => exact .of_withRxv h fun _ => .rxend
  | rxrd k => exact .of_withRxv h fun _ => .rxrd k
  | payrd i => exact .of_withRxv h fun _ => .payrd i
  | statusOk addr rest => exact .of_withRxv h fun _ => .statusOk addr rest
  | statusFail addr rest => exact .of_withRxv h fun _ => .statusFail addr rest
  | cmdWriteUid | cmdReadUid | cmdReadSector | cmdWriteSector | cmdChangePassword | cmdReadId
  | cmdWriteChipId | cmdReadAllBlocks | cmdReadContactlessUid | cmdWriteTagSector =>
    exact .of_isCall rfl h

/-! ## Under the invariant every instruction answers a next state -/

theorem State.exists_withRxv {s : State} {x : Except Fault Rxv} (h : ∃ r, x = .ok r) :
    ∃ t, s.withRxv x = .next t := by
  obtain ⟨r, hr⟩ := h
  exact ⟨s.setRxv r, State.withRxv_eq_next.2 ⟨r, hr, rfl⟩⟩

/-- A whole buffer is judged from any state, since it begins with an RXCLR. -/
theorem exists_presentBuffer (b : List Byte) (s : State) : ∃ t, presentBuffer b s = .next t :=
  State.exists_withRxv (Rxv.exists_judge s.rxv b)

theorem exists_catalogCall (addr cmd : Byte) (args : Except CatalogError (List Byte)) (s : State) :
    ∃ t, catalogCall addr cmd args s = .next t := by
  rcases catalogCall_cases addr cmd args s with ⟨_, _, _, h⟩ | ⟨_, _, _, h⟩ | ⟨_, _, h⟩
  all_goals exact ⟨_, h⟩

theorem exists_exec_of_isCall {i : Instr} (hi : isCall i = true) (s : State) :
    ∃ t, exec i s = .next t := by
  obtain ⟨c, rfl⟩ := exists_namedCall hi
  rw [exec_toInstr]
  exact exists_catalogCall c.addr c.command c.payload s

/-- No arm of `exec` refuses, and only RXEND, RXRD and PAYRD can fault (log 9). -/
theorem exists_exec {s : State} (hi : s.rxv.Inv) (i : Instr) : ∃ t, exec i s = .next t := by
  cases i with
  | rxend => exact State.exists_withRxv (Rxv.exists_close hi)
  | rxrd k => exact State.exists_withRxv (Rxv.exists_readRaw hi k)
  | payrd i => exact State.exists_withRxv (Rxv.exists_readPayload hi i)
  | statusOk | statusFail => exact exists_presentBuffer _ s
  | cmdWriteUid | cmdReadUid | cmdReadSector | cmdWriteSector | cmdChangePassword | cmdReadId
  | cmdWriteChipId | cmdReadAllBlocks | cmdReadContactlessUid | cmdWriteTagSector =>
    exact exists_exec_of_isCall rfl s
  | nop | reset | xclr | xabs | txbegin | txpay | txclr | rxclr | rxb | pack
  | reservedD | reservedE | reservedF => exact ⟨_, rfl⟩

theorem exists_watched {n : Notice} {o : Host.Outcome State Fault Refusal} (h : ∃ t, o = .next t) :
    ∃ t, watched n o = .next t := by
  obtain ⟨t, ht⟩ := h
  exact ⟨t.watch n, watched_eq_next.2 ⟨t, ht, rfl⟩⟩

/-- The decoder has an instruction for every operation word and every named call (R85, R182), so of the
items it rejects only a call's frame is refused. -/
theorem runRejected_cases {item : Issue} {e : DecodeError} (hd : decode item = .rejected e) (s : State) :
    (∃ t, runRejected item e s = .next t) ∨
    (∃ frame, item = .call frame ∧ runRejected item e s = .refused (.badCall e)) := by
  cases item with
  | word w => cases hd
  | invoke c => cases hd
  | call frame => exact .inr ⟨frame, rfl, rfl⟩
  | buffer b => exact .inl (exists_watched (exists_presentBuffer b s))
  | transportFailed report => exact .inl ⟨_, rfl⟩

end Sys2Proof.Machine
end

section
/-! PROOFS. One step: it runs the instruction presented next (O1), and under the invariant it never
faults (O56). -/

open Sys2Proof Sys2Proof.Machine

/-- Settles O1: the catalog's look changes its request and record only (`State.watch_eq`), and nothing
with no request in flight and no failed reply (`State.watch_idle`). -/
theorem stepRunsPresentedInstruction : Obligations.StepRunsPresentedInstruction := by
  intro s item rest i hs hd
  have hstep : step s = watched (notice i) (exec i (s.setIssue rest)) := by rw [step_item hs, hd]
  refine ⟨hstep, fun f hf => by rw [hstep, hf]; rfl, fun r hr => by rw [hstep, hr]; rfl, fun t ht => ?_⟩
  have hnext : step s = .next (t.watch (notice i)) := hstep.trans (watched_eq_next.2 ⟨t, ht, rfl⟩)
  obtain ⟨q, c, hwatch⟩ := t.watch_eq (notice i)
  exact ⟨q, c, by rw [hnext, hwatch], fun hq hc => by rw [hnext, State.watch_idle hq hc]⟩

/-- Settles O56: what is decoded answers a next state under the invariant, and what the decoder rejects
is judged as a buffer, reported to the catalog, or a call's frame. -/
theorem stepNeverFaultsUnderInvariant : Obligations.StepNeverFaultsUnderInvariant := by
  intro s hi
  cases hs : s.issue with
  | nil => exact .inl ⟨s, step_idle hs⟩
  | cons item rest =>
    have hrxv : (s.setIssue rest).rxv.Inv := hi.rxv
    cases hd : decode item with
    | instr i =>
      refine .inl ?_
      rw [step_item hs, hd]
      exact exists_watched (exists_exec hrxv i)
    | rejected e =>
      have hstep : step s = runRejected item e (s.setIssue rest) := by rw [step_item hs, hd]
      rcases runRejected_cases hd (s.setIssue rest) with ⟨t, ht⟩ | ⟨frame, rfl, hr⟩
      · exact .inl ⟨t, hstep.trans ht⟩
      · exact .inr ⟨frame, rest, e, rfl, hd, hstep.trans hr⟩

end

section
/-! PROOFS. The sticky flags RX_DROP and TX_ERR: what sets them, what clears them, what keeps them (O60). -/

namespace Sys2Proof.Machine

/-! ## RX_DROP -/

theorem Rxv.present_done (r : Rxv) (d : Byte) : (r.present d).done = r.done := by
  rcases r.present_cases d with ⟨_, h⟩ | ⟨_, _, h⟩ | ⟨_, _, _, h⟩ | ⟨_, _, h⟩
  all_goals simp only [h, Rxv.refuseDrop_done]

/-- RXB sets RX_DROP exactly when the buffer is closed (R126). -/
theorem Rxv.present_drop (r : Rxv) (d : Byte) : (r.present d).drop = (r.drop || r.done) := by
  rcases r.present_cases d with ⟨hd, h⟩ | ⟨hd, _, h⟩ | ⟨hd, _, _, h⟩ | ⟨hd, _, h⟩
  all_goals simp [h, hd]

theorem Rxv.foldl_present_drop_of_open {r : Rxv} (b : List Byte) (hd : r.done = false) :
    (b.foldl Rxv.present r).drop = r.drop := by
  induction b generalizing r with
  | nil => rfl
  | cons d b ih =>
    have hd' : (r.present d).done = false := (r.present_done d).trans hd
    calc (b.foldl Rxv.present (r.present d)).drop
      _ = (r.present d).drop := ih hd'
      _ = r.drop := by rw [Rxv.present_drop, hd, Bool.or_false]

theorem Rxv.close_drop {r r' : Rxv} (h : r.close = .ok r') : r'.drop = r.drop := by
  rcases Rxv.close_cases h with ⟨_, rfl⟩ | ⟨_, v, len, _, rfl, _⟩ <;> rfl

theorem Rxv.readRaw_drop {r r' : Rxv} {k : BufAddr} (h : r.readRaw k = .ok r') : r'.drop = r.drop := by
  rcases Rxv.readRaw_cases h with ⟨_, _, v, _, rfl⟩ | ⟨_, rfl⟩ <;> rfl

theorem Rxv.readPayload_drop {r r' : Rxv} {i : Byte} (h : r.readPayload i = .ok r') :
    r'.drop = r.drop := by
  rcases Rxv.readPayload_cases h with ⟨_, _, v, _, rfl⟩ | ⟨_, rfl⟩ <;> rfl

/-- A buffer presented whole drops none of its bytes: it opens the validator first (R87). -/
theorem Rxv.judge_drop {r r' : Rxv} {b : List Byte} (h : r.judge b = .ok r') : r'.drop = false :=
  (Rxv.close_drop h).trans (Rxv.foldl_present_drop_of_open b r.clear_done)

theorem RxvEffect.drop_cases {r r' : Rxv} {i : Instr} (h : RxvEffect r i r') :
    r'.drop = r.drop ∨ (r.done = true ∧ (∃ d, i = .rxb d) ∧ r'.drop = true) ∨
    (notice i = .opened ∧ r'.drop = false) := by
  cases h with
  | rxclr => exact .inr (.inr ⟨rfl, rfl⟩)
  | rxb d =>
    cases hd : r.done with
    | false => exact .inl (by rw [Rxv.present_drop, hd, Bool.or_false])
    | true => exact .inr (.inl ⟨rfl, ⟨d, rfl⟩, by rw [Rxv.present_drop, hd, Bool.or_true]⟩)
  | rxend h => exact .inl (Rxv.close_drop h)
  | rxrd k h => exact .inl (Rxv.readRaw_drop h)
  | payrd i h => exact .inl (Rxv.readPayload_drop h)
  | statusOk addr rest h | statusFail addr rest h => exact .inr (.inr ⟨rfl, Rxv.judge_drop h⟩)

/-! ## TX_ERR of the builder's operations -/

/-- TXBEGIN sets TX_ERR exactly when a frame is in progress (R111). -/
theorem Txb.start_err (t : Txb) (addr cmd n : Byte) : (t.start addr cmd n).err = (t.err || t.busy) := by
  rcases t.start_cases addr cmd n with ⟨hb, h⟩ | ⟨hb, _, h⟩ | ⟨hb, _, h⟩
  all_goals simp [h, hb]

/-- TXPAY sets TX_ERR exactly when no frame is in progress (R112). -/
theorem Txb.pay_err (t : Txb) (d : Byte) : (t.pay d).err = (t.err || !t.busy) := by
  rcases t.pay_cases d with ⟨hb, h⟩ | ⟨hb, _, h⟩ | ⟨hb, _, h⟩
  all_goals simp [h, hb]

/-! ## ENCODE -/

/-- TXPAYs for exactly the bytes that are awaited end the frame: they are emitted with their checksum. -/
theorem Txb.foldl_pay_awaited {t : Txb} {d : Byte} {p : List Byte} (hb : t.busy = true)
    (hrem : t.rem.toNat = p.length + 1) :
    (d :: p).foldl Txb.pay t =
      (t.emit (d :: p ++ [(d :: p).foldl absorb t.acc])).place false 0 ((d :: p).foldl absorb t.acc) := by
  induction p generalizing t d with
  | nil =>
    have hone : t.rem = 1 := BitVec.eq_of_toNat_eq hrem
    rcases t.pay_cases d with ⟨hb', _⟩ | ⟨_, _, h⟩ | ⟨_, hne, _⟩
    · simp [hb] at hb'
    · exact h
    · exact absurd hone hne
  | cons e p ih =>
    have hlt := t.rem.isLt
    rw [List.length_cons] at hrem
    have hone : t.rem ≠ 1 := fun h => by simp [h] at hrem
    have hpred : (t.rem - 1).toNat = p.length + 1 := by
      rw [BitVec.toNat_sub_of_le (by simp [BitVec.le_def]; omega)]
      simp [hrem]
    have hpay : t.pay d = (t.emit [d]).place true (t.rem - 1) (absorb t.acc d) := by
      rcases t.pay_cases d with ⟨hb', _⟩ | ⟨_, hone', _⟩ | ⟨_, _, h⟩
      · simp [hb] at hb'
      · exact absurd hone' hone
      · exact h
    rw [List.foldl_cons, hpay, ih rfl hpred]
    simp [Txb.emit, Txb.place]

/-- The header's checksum, carried over the payload, is that of the whole covered part (R110). -/
theorem xor8_frameCovered (addr cmd : Byte) (p : List Byte) :
    xor8 (frameCovered addr cmd p) = p.foldl absorb (addr ^^^ cmd ^^^ BitVec.ofNat 8 p.length) := by
  have hheader : (0x00 : Byte) ^^^ addr = addr := BitVec.zero_xor
  simp only [xor8, frameCovered, List.cons_append, List.nil_append, List.foldl_cons, hheader]
  rfl

/-- ENCODE on a builder outside a frame appends `encode(addr, cmd, p)` and leaves it outside (R110, R114). -/
theorem Txb.sendFrame_idle {t : Txb} (addr cmd : Byte) {p : List Byte} (hb : t.busy = false)
    (hp : p.length ≤ Config.lenMax) :
    t.sendFrame addr cmd p =
      (t.emit (frameEncode addr cmd p)).place false 0 (xor8 (frameCovered addr cmd p)) := by
  have hlen : (BitVec.ofNat 8 p.length).toNat = p.length :=
    Nat.mod_eq_of_lt (Nat.lt_succ_of_le hp)
  rw [xor8_frameCovered, Txb.sendFrame]
  rcases t.start_cases addr cmd (BitVec.ofNat 8 p.length) with ⟨hb', _⟩ | ⟨_, hn, h⟩ | ⟨_, hn, h⟩
  · simp [hb] at hb'
  · have hnil : p = [] := List.eq_nil_of_length_eq_zero (by rw [← hlen, hn]; rfl)
    subst hnil
    rw [h, frameEncode, xor8_frameCovered]
    rfl
  · cases p with
    | nil => exact absurd rfl hn
    | cons d p =>
      rw [h, Txb.foldl_pay_awaited rfl hlen, frameEncode, xor8_frameCovered]
      simp [Txb.emit, Txb.place, frameCovered]

/-! ## TX_ERR of a catalog call -/

theorem Txb.foldl_pay_err_of_set {t : Txb} (p : List Byte) (h : t.err = true) :
    (p.foldl Txb.pay t).err = true := by
  induction p generalizing t with
  | nil => exact h
  | cons d p ih => exact ih (by rw [Txb.pay_err, h, Bool.true_or])

/-- ENCODE sets TX_ERR exactly when its TXBEGIN meets a frame in progress (log 14). -/
theorem Txb.sendFrame_err (t : Txb) (addr cmd : Byte) {p : List Byte} (hp : p.length ≤ Config.lenMax) :
    (t.sendFrame addr cmd p).err = (t.err || t.busy) := by
  cases hb : t.busy with
  | false => rw [Txb.sendFrame_idle addr cmd hb hp, Txb.place_err, Txb.emit_err, Bool.or_false]
  | true =>
    have hstart : (t.start addr cmd (BitVec.ofNat 8 p.length)).err = true := by
      rw [Txb.start_err, hb, Bool.or_true]
    rw [Txb.sendFrame, Txb.foldl_pay_err_of_set p hstart, Bool.or_true]

theorem fitPayload_length {q p : List Byte} (h : fitPayload q = .ok p) : p.length ≤ Config.lenMax := by
  rcases fitPayload_cases q with ⟨hle, hq⟩ | ⟨_, hq⟩ <;> rw [hq] at h <;> cases h
  exact hle

/-- A validator that passed its test answers what follows the test. -/
theorem of_test_eq_ok {P : Prop} [Decidable P] {e : CatalogError} {x : Except CatalogError (List Byte)}
    {p : List Byte} (h : (if P then .error e else x) = .ok p) : x = .ok p := by
  split at h
  · cases h
  · exact h

/-- What a call sends fits the length byte, and only the nine calls of R171 to R179 send anything. -/
theorem NamedCall.payload_eq_ok {c : NamedCall} {p : List Byte} (h : c.payload = .ok p) :
    p.length ≤ Config.lenMax ∧ sendsFrame c.toInstr = true := by
  cases c with
  | readUid | readId | readContactlessUid => cases h; exact ⟨Nat.zero_le _, rfl⟩
  | writeUid | writeChipId => exact ⟨fitPayload_length h, rfl⟩
  | readSector | writeSector => exact ⟨fitPayload_length (of_test_eq_ok h), rfl⟩
  | changePassword | readAllBlocks => exact ⟨fitPayload_length (of_test_eq_ok (of_test_eq_ok h)), rfl⟩
  | writeTagSector => cases h

/-- What refused an operation or a call's TXBEGIN, so that TX_ERR got 1 (R111, R112; log 14). -/
def TxErrCause (s : State) (i : Instr) : Prop :=
  (s.txb.busy = true ∧ ∃ addr cmd n, i = .txbegin addr cmd n) ∨ (s.txb.busy = false ∧ ∃ d, i = .txpay d)
    ∨ (s.txb.busy = true ∧ s.request = .idle ∧ sendsFrame i = true)

/-- An operation that sets TX_ERR when `b` says it is refused kept the flag, or was refused and set it. -/
theorem err_kept_or_set {err err' b : Bool} (h : err' = (err || b)) :
    err' = err ∨ (b = true ∧ err' = true) := by
  cases b with
  | false => exact .inl (h.trans (Bool.or_false err))
  | true => exact .inr ⟨rfl, h.trans (Bool.or_true err)⟩

theorem TxbEffect.err_cases {s : State} {i : Instr} {t : Txb} (h : TxbEffect s.txb i t) :
    t.err = s.txb.err ∨ (i = .txclr ∧ t.err = false) ∨ (TxErrCause s i ∧ t.err = true) := by
  cases h with
  | txbegin addr cmd n =>
    refine (err_kept_or_set (s.txb.start_err addr cmd n)).imp_right fun ⟨hb, herr⟩ => .inr ⟨?_, herr⟩
    exact .inl ⟨hb, addr, cmd, n, rfl⟩
  | txpay d =>
    refine (err_kept_or_set (s.txb.pay_err d)).imp_right fun ⟨hb, herr⟩ => .inr ⟨?_, herr⟩
    exact .inr (.inl ⟨by simpa using hb, d, rfl⟩)
  | txclr => exact .inr (.inl ⟨rfl, rfl⟩)

/-- A call sets TX_ERR only when its TXBEGIN is refused; turned away or rejected, it issues nothing. -/
theorem NamedCall.err_cases {c : NamedCall} {s t : State}
    (h : catalogCall c.addr c.command c.payload s = .next t) :
    t.txb.err = s.txb.err ∨ (TxErrCause s c.toInstr ∧ t.txb.err = true) := by
  rcases catalogCall_cases c.addr c.command c.payload s with ⟨p, hp, hq, h'⟩ | ⟨_, _, _, h'⟩ | ⟨_, _, h'⟩
  all_goals rw [h'] at h; cases h
  case inl =>
    obtain ⟨hlen, hsends⟩ := NamedCall.payload_eq_ok hp
    exact (err_kept_or_set (s.txb.sendFrame_err c.addr c.command hlen)).imp_right
      fun ⟨hb, herr⟩ => ⟨.inr (.inr ⟨hb, hq, hsends⟩), herr⟩
  case inr.inl => exact .inl rfl
  case inr.inr => exact .inl rfl

/-! ## The two flags under an instruction -/

/-- RX_DROP is kept, or set by an RXB on a closed buffer, or cleared with the opening of a new one (R29). -/
theorem ExecEffect.drop_cases {s t : State} {i : Instr} (h : ExecEffect s i t) :
    t.rxv.drop = s.rxv.drop ∨ (s.rxv.done = true ∧ (∃ d, i = .rxb d) ∧ t.rxv.drop = true) ∨
    (notice i = .opened ∧ t.rxv.drop = false) := by
  cases h with
  | nop | xclr | xabs | pack | reserved | txb => exact .inl rfl
  | reset => exact .inr (.inr ⟨rfl, rfl⟩)
  | rxv hr => exact hr.drop_cases
  | call c hc =>
    rcases catalogCall_cases c.addr c.command c.payload s with ⟨_, _, _, h'⟩ | ⟨_, _, _, h'⟩ | ⟨_, _, h'⟩
    all_goals rw [h'] at hc; cases hc; exact .inl rfl

/-- TX_ERR is kept, or cleared by TXCLR or RESET, or set by a refusal (R34). -/
theorem ExecEffect.err_cases {s t : State} {i : Instr} (h : ExecEffect s i t) :
    t.txb.err = s.txb.err ∨ ((i = .reset ∨ i = .txclr) ∧ t.txb.err = false) ∨
    (TxErrCause s i ∧ t.txb.err = true) := by
  cases h with
  | nop | xclr | xabs | pack | reserved | rxv => exact .inl rfl
  | reset => exact .inr (.inl ⟨.inl rfl, rfl⟩)
  | txb hb => exact hb.err_cases.imp_right (.imp_left fun ⟨hi, herr⟩ => ⟨.inr hi, herr⟩)
  | call c hc => exact (NamedCall.err_cases hc).imp_right .inr

/-- The instructions that open a new buffer (R87, R222). -/
theorem notice_eq_opened {i : Instr} (h : notice i = .opened) :
    i = .reset ∨ i = .rxclr ∨ (∃ a l, i = .statusOk a l) ∨ ∃ a l, i = .statusFail a l := by
  cases i with
  | reset => exact .inl rfl
  | rxclr => exact .inr (.inl rfl)
  | statusOk a l => exact .inr (.inr (.inl ⟨a, l, rfl⟩))
  | statusFail a l => exact .inr (.inr (.inr ⟨a, l, rfl⟩))
  | _ => cases h

end Sys2Proof.Machine
end

section
open Sys2Proof Sys2Proof.Machine

/-- Settles O60, clause by clause, from all that an instruction can do to RX_DROP (`ExecEffect.drop_cases`)
and to TX_ERR (`ExecEffect.err_cases`). -/
theorem stickyFlagsStaySet : Obligations.StickyFlagsStaySet := by
  intro i s t h
  have hdrop := (exec_effect h).drop_cases
  have herr := (exec_effect h).err_cases
  refine ⟨fun hset hreset hrxclr hok hfail => ?_, fun hclear hset => ?_, fun hset hreset htxclr => ?_,
    fun hclear hset => ?_⟩
  · rcases hdrop with hkept | ⟨_, _, hset'⟩ | ⟨hopened, _⟩
    · exact hkept.trans hset
    · exact hset'
    · rcases notice_eq_opened hopened with hi | hi | ⟨a, l, hi⟩ | ⟨a, l, hi⟩
      · exact absurd hi hreset
      · exact absurd hi hrxclr
      · exact absurd hi (hok a l)
      · exact absurd hi (hfail a l)
  · rcases hdrop with hkept | ⟨hdone, hrxb, _⟩ | ⟨_, hclear'⟩
    · simp [hkept, hclear] at hset
    · exact ⟨hdone, hrxb⟩
    · simp [hclear'] at hset
  · rcases herr with hkept | ⟨hi | hi, _⟩ | ⟨_, hset'⟩
    · exact hkept.trans hset
    · exact absurd hi hreset
    · exact absurd hi htxclr
    · exact hset'
  · rcases herr with hkept | ⟨_, hclear'⟩ | ⟨hcause, _⟩
    · simp [hkept, hclear] at hset
    · simp [hclear'] at hset
    · exact hcause

end

section
/-! PROOFS. What an instruction leaves unchanged: every unit but its own (O58), the bytes already sent (O59),
and a closed buffer (O41). -/

namespace Sys2Proof.Machine

/-! ## The unit an instruction belongs to -/

theorem NamedCall.part_toInstr (c : NamedCall) : part c.toInstr = .txb := by cases c <;> rfl

theorem NamedCall.isCall_toInstr (c : NamedCall) : isCall c.toInstr = true := by cases c <;> rfl

theorem TxbEffect.part_eq {t t' : Txb} {i : Instr} (h : TxbEffect t i t') : part i = .txb := by
  cases h <;> rfl

theorem RxvEffect.part_eq {r r' : Rxv} {i : Instr} (h : RxvEffect r i r') : part i = .rxv := by
  cases h <;> rfl

/-- A call issues the ENCODE of a payload to the builder or nothing, and writes the catalog's own two fields;
everything else it leaves. -/
theorem catalogCall_next {addr cmd : Byte} {args : Except CatalogError (List Byte)} {s t : State}
    (h : catalogCall addr cmd args s = .next t) :
    ∃ b q a, t = ((s.setTxb b).setRequest q).setCatalog a ∧
      (b = s.txb ∨ ∃ p, b = s.txb.sendFrame addr cmd p) ∧ (q = s.request ∨ q = .sent) ∧
      ∀ raw, a ≠ .opFailed raw := by
  rcases catalogCall_cases addr cmd args s with ⟨p, _, _, h'⟩ | ⟨_, _, _, h'⟩ | ⟨e, _, h'⟩
  all_goals rw [h'] at h; cases h
  case inl => exact ⟨_, _, _, rfl, .inr ⟨p, rfl⟩, .inr rfl, nofun⟩
  case inr.inl => exact ⟨s.txb, s.request, _, rfl, .inl rfl, .inl rfl, nofun⟩
  case inr.inr => exact ⟨s.txb, s.request, _, rfl, .inl rfl, .inl rfl, nofun⟩

/-- No instruction changes what is presented after it. -/
theorem ExecEffect.issue_eq {s t : State} {i : Instr} (h : ExecEffect s i t) : t.issue = s.issue := by
  cases h with
  | nop | reset | xclr | xabs | pack | reserved | txb | rxv => rfl
  | call c hc => obtain ⟨_, _, _, rfl, _⟩ := catalogCall_next hc; rfl

/-- Only calls change the catalog's request and record before the catalog looks (log 8). -/
theorem ExecEffect.catalog_eq {s t : State} {i : Instr} (h : ExecEffect s i t) (hi : isCall i = false) :
    t.catalog = s.catalog ∧ t.request = s.request := by
  cases h with
  | nop | reset | xclr | xabs | pack | reserved | txb | rxv => exact ⟨rfl, rfl⟩
  | call c hc => simp [NamedCall.isCall_toInstr] at hi

/-- An instruction other than RESET writes the unit of its `part` only (R20, R59, R84). -/
theorem ExecEffect.other_units {s t : State} {i : Instr} (h : ExecEffect s i t) (hi : i ≠ .reset) :
    (part i ≠ .chk → t.chk = s.chk) ∧ (part i ≠ .txb → t.txb = s.txb) ∧ (part i ≠ .rxv → t.rxv = s.rxv)
      ∧ (part i ≠ .cnp → t.cnp = s.cnp) ∧ (part i ≠ .flag → t.opErr = s.opErr) := by
  cases h with
  | nop => simp
  | reset => exact absurd rfl hi
  | xclr | xabs => simp [part]
  | pack => simp [part]
  | reserved hp => simp [hp]
  | txb hb => simp [hb.part_eq]
  | rxv hr => simp [hr.part_eq]
  | call c hc =>
    obtain ⟨_, _, _, rfl, _⟩ := catalogCall_next hc
    simp [NamedCall.part_toInstr]

/-! ## The bytes sent -/

theorem Txb.start_out_prefix (t : Txb) (addr cmd n : Byte) : t.out <+: (t.start addr cmd n).out := by
  rcases t.start_cases addr cmd n with ⟨_, h⟩ | ⟨_, _, h⟩ | ⟨_, _, h⟩
  all_goals simp [h]

theorem Txb.pay_out_prefix (t : Txb) (d : Byte) : t.out <+: (t.pay d).out := by
  rcases t.pay_cases d with ⟨_, h⟩ | ⟨_, _, h⟩ | ⟨_, _, h⟩
  all_goals simp [h]

theorem Txb.foldl_pay_out_prefix (t : Txb) (p : List Byte) : t.out <+: (p.foldl Txb.pay t).out := by
  induction p generalizing t with
  | nil => exact List.prefix_rfl
  | cons d p ih => exact (t.pay_out_prefix d).trans (ih (t.pay d))

theorem Txb.sendFrame_out_prefix (t : Txb) (addr cmd : Byte) (p : List Byte) :
    t.out <+: (t.sendFrame addr cmd p).out :=
  (t.start_out_prefix addr cmd _).trans (Txb.foldl_pay_out_prefix _ p)

theorem TxbEffect.out_prefix {t t' : Txb} {i : Instr} (h : TxbEffect t i t') : t.out <+: t'.out := by
  cases h with
  | txbegin addr cmd n => exact t.start_out_prefix addr cmd n
  | txpay d => exact t.pay_out_prefix d
  | txclr => exact List.prefix_rfl

theorem ExecEffect.out_prefix {s t : State} {i : Instr} (h : ExecEffect s i t) (hi : i ≠ .reset) :
    s.txb.out <+: t.txb.out := by
  cases h with
  | nop | xclr | xabs | pack | reserved | rxv => exact List.prefix_rfl
  | reset => exact absurd rfl hi
  | txb hb => exact hb.out_prefix
  | call c hc =>
    obtain ⟨b, _, _, rfl, rfl | ⟨p, rfl⟩, _⟩ := catalogCall_next hc
    · exact List.prefix_rfl
    · exact s.txb.sendFrame_out_prefix c.addr c.command p

/-! ## A closed buffer -/

/-- The two validators hold the same buffer with the same verdict; RX_DROP and the result latch may differ. -/
def Rxv.SameBuffer (r r' : Rxv) : Prop :=
  ∃ drop rdData rdOk, r' = { r with drop := drop, rdData := rdData, rdOk := rdOk }

theorem Rxv.SameBuffer.rfl {r : Rxv} : r.SameBuffer r := ⟨_, _, _, Eq.refl r⟩

theorem Rxv.refuseDrop_sameBuffer (r : Rxv) : r.SameBuffer r.refuseDrop := ⟨_, _, _, Eq.refl _⟩

theorem Rxv.latch_sameBuffer (r : Rxv) (v : Byte) : r.SameBuffer (r.latch v) := ⟨_, _, _, Eq.refl _⟩

theorem Rxv.refuseRead_sameBuffer (r : Rxv) : r.SameBuffer r.refuseRead := ⟨_, _, _, Eq.refl _⟩

theorem Rxv.readRaw_sameBuffer {r r' : Rxv} {k : BufAddr} (h : r.readRaw k = .ok r') : r.SameBuffer r' := by
  rcases Rxv.readRaw_cases h with ⟨_, _, v, _, rfl⟩ | ⟨_, rfl⟩
  · exact r.latch_sameBuffer v
  · exact r.refuseRead_sameBuffer

theorem Rxv.readPayload_sameBuffer {r r' : Rxv} {i : Byte} (h : r.readPayload i = .ok r') :
    r.SameBuffer r' := by
  rcases Rxv.readPayload_cases h with ⟨_, _, v, _, rfl⟩ | ⟨_, rfl⟩
  · exact r.latch_sameBuffer v
  · exact r.refuseRead_sameBuffer

theorem Rxv.present_of_closed {r : Rxv} (d : Byte) (hd : r.done = true) : r.present d = r.refuseDrop := by
  simp [Rxv.present, hd]

theorem Rxv.close_of_closed {r r' : Rxv} (hd : r.done = true) (h : r.close = .ok r') : r' = r := by
  rcases Rxv.close_cases h with ⟨_, hr⟩ | ⟨hopen, _⟩
  · exact hr
  · simp [hd] at hopen

/-- While RX_DONE is 1 only what opens a new buffer touches the old one (R26, R141). -/
theorem RxvEffect.sameBuffer_of_closed {r r' : Rxv} {i : Instr} (h : RxvEffect r i r')
    (hd : r.done = true) (hn : notice i ≠ .opened) : r.SameBuffer r' := by
  cases h with
  | rxclr | statusOk | statusFail => exact absurd rfl hn
  | rxb d => exact Rxv.present_of_closed d hd ▸ r.refuseDrop_sameBuffer
  | rxend h => exact Rxv.close_of_closed hd h ▸ .rfl
  | rxrd k h => exact Rxv.readRaw_sameBuffer h
  | payrd i h => exact Rxv.readPayload_sameBuffer h

/-- Everything an instruction can do to the validator. -/
theorem ExecEffect.rxv_cases {s t : State} {i : Instr} (h : ExecEffect s i t) :
    t.rxv = s.rxv ∨ RxvEffect s.rxv i t.rxv ∨ (i = .reset ∧ t.rxv = Rxv.reset) := by
  cases h with
  | nop | xclr | xabs | pack | reserved | txb => exact .inl rfl
  | reset => exact .inr (.inr ⟨rfl, rfl⟩)
  | rxv hr => exact .inr (.inl hr)
  | call c hc => obtain ⟨_, _, _, rfl, _⟩ := catalogCall_next hc; exact .inl rfl

theorem ExecEffect.sameBuffer_of_closed {s t : State} {i : Instr} (h : ExecEffect s i t)
    (hd : s.rxv.done = true) (hn : notice i ≠ .opened) : s.rxv.SameBuffer t.rxv := by
  rcases h.rxv_cases with h | h | ⟨rfl, _⟩
  · exact h ▸ .rfl
  · exact h.sameBuffer_of_closed hd hn
  · exact absurd rfl hn

/-- What closes an open buffer: RXEND, or a whole-buffer row, which ends with RXEND (R87, R127). -/
theorem RxvEffect.closes {r r' : Rxv} {i : Instr} (h : RxvEffect r i r') (hd : r.done = false)
    (hd' : r'.done = true) : i = .rxend ∨ (∃ a l, i = .statusOk a l) ∨ (∃ a l, i = .statusFail a l) := by
  cases h with
  | rxclr => cases hd'
  | rxb d => simp [Rxv.present_done, hd] at hd'
  | rxend => exact .inl rfl
  | rxrd k h =>
    obtain ⟨_, _, _, rfl⟩ := Rxv.readRaw_sameBuffer h
    simp [hd] at hd'
  | payrd i h =>
    obtain ⟨_, _, _, rfl⟩ := Rxv.readPayload_sameBuffer h
    simp [hd] at hd'
  | statusOk a l => exact .inr (.inl ⟨a, l, rfl⟩)
  | statusFail a l => exact .inr (.inr ⟨a, l, rfl⟩)

end Sys2Proof.Machine
end

section
open Sys2Proof Sys2Proof.Machine

/-- Settles O58. -/
theorem onlyTheOwnUnitChanges : Obligations.OnlyTheOwnUnitChanges := fun _ _ _ h =>
  have heffect := exec_effect h
  ⟨heffect.issue_eq, heffect.catalog_eq, heffect.other_units⟩

/-- Settles O59. -/
theorem emittedBytesStaySent : Obligations.EmittedBytesStaySent := by
  refine ⟨fun i s t hi h => (exec_effect h).out_prefix hi, fun s t h => ?_⟩
  cases h
  rfl

/-- Settles O41: the reads, RXB and RXEND leave a closed buffer alone (`ExecEffect.sameBuffer_of_closed`). -/
theorem closedBufferIsFrozen : Obligations.ClosedBufferIsFrozen := by
  refine ⟨fun i s t h hd hreset hrxclr hok hfail => ?_, fun i s t h hd hd' => ?_, fun s t h => ?_⟩
  · have hn : notice i ≠ .opened := fun hn => by
      rcases notice_eq_opened hn with hi | hi | ⟨a, l, hi⟩ | ⟨a, l, hi⟩
      · exact hreset hi
      · exact hrxclr hi
      · exact hok a l hi
      · exact hfail a l hi
    obtain ⟨_, _, _, hr⟩ := (exec_effect h).sameBuffer_of_closed hd hn
    simp [hr, hd]
  · rcases (exec_effect h).rxv_cases with hr | hr | ⟨_, hr⟩
    · simp [hr, hd] at hd'
    · exact hr.closes hd hd'
    · simp [hr, Rxv.reset] at hd'
  · rcases h with h | h <;> cases h <;> rfl

end

section
/-! PROOFS. The invariants of the units RXV, TXB and CNP under every instruction. -/

namespace Sys2Proof.Machine

/-! ## The validator -/

theorem Rxv.reset_inv : Rxv.reset.Inv := .of_open rfl rfl rfl rfl (by decide) nofun (fun _ => rfl)

theorem Rxv.SameBuffer.inv {r r' : Rxv} (h : r.SameBuffer r') (hi : r.Inv) : r'.Inv := by
  obtain ⟨_, _, _, rfl⟩ := h
  exact ⟨hi.listed, hi.cnt_le, hi.ovf_full, hi.acc_eq, hi.open_none, hi.closed_some, hi.plen_ok, hi.ok_facts⟩

theorem Rxv.Inv.closed_of_verdict {r : Rxv} (hi : r.Inv) (hv : r.verdict ≠ .vNone) : r.done = true := by
  by_contra hd
  exact hv (hi.open_none (by simpa using hd)).1

theorem Rxv.Inv.open_of_none {r : Rxv} (hi : r.Inv) (hv : r.verdict = .vNone) : r.done = false := by
  by_contra hd
  exact hi.closed_some (by simpa using hd) hv

/-- A buffer of five bytes with status 0x81 and length byte 0x00 sums to 0x81, so it does not pass the checksum
test of R131. -/
theorem Rxv.cnt_ne_five {r : Rxv} (hi : r.Inv) (hacc : r.acc = 0x00)
    (hstatus : r.buf.read 3 = some Config.stOk) (hlen : r.buf.read 4 = some 0x00) : r.cnt.toNat ≠ 5 := by
  intro hcnt
  have hsize : r.buf.bytes.length = 5 := (Memory.length_bytes hi.listed).trans hcnt
  have hovf : r.ovf = false := by
    by_contra ho
    have := hi.ovf_full (by simpa using ho)
    simp [hcnt, Config.rxbufDepth] at this
  have htail : r.buf.bytes.drop 3 = [Config.stOk, 0x00] := by
    rw [Memory.read_range hi.listed] at hstatus hlen
    obtain ⟨h3, hbyte3⟩ := List.getElem?_eq_some_iff.1 hstatus
    obtain ⟨h4, hbyte4⟩ := List.getElem?_eq_some_iff.1 hlen
    rw [List.drop_eq_getElem_cons h3, List.drop_eq_getElem_cons h4, hbyte3, hbyte4,
      List.drop_of_length_le (by omega)]
  have hsum : r.acc = xor8 [Config.stOk, 0x00] := htail ▸ hi.acc_eq hovf
  exact absurd (hsum.symm.trans hacc) (by decide)

/-- The tests that a verdict V_OK has passed (R131). -/
theorem verdictOf_eq_ok {cnt : BufAddr} {acc : Byte} {buf : Memory} (h : verdictOf cnt acc buf = .ok .vOk) :
    acc = 0x00 ∧ buf.read 0 = some Config.rxSync0 ∧ buf.read 1 = some Config.rxSync1 ∧
      buf.read 3 = some Config.stOk ∧
      ∃ len, buf.read 4 = some len ∧ Config.rxPayFirst + len.toNat ≤ cnt.toNat := by
  rcases verdictOf_cases h with ⟨hv, _⟩ | ⟨_, ⟨hv, _⟩ | ⟨hacc, b0, b1, h0, h1, ⟨hv, _⟩ |
    ⟨rfl, rfl, status, h3, ⟨rfl, len, h4, ⟨hv, _⟩ | ⟨_, hfit⟩⟩ | ⟨hv, _⟩ | ⟨hv, _⟩⟩⟩⟩
  case inr.inr.inr.inl.inr => exact ⟨hacc, h0, h1, h3, len, h4, hfit⟩
  all_goals cases hv

/-- A buffer of V_OK has the six bytes of the smallest frame (R47 item 6, R136). -/
theorem Rxv.frameFixed_le_cnt {r : Rxv} (hi : r.Inv) (h : verdictOf r.cnt r.acc r.buf = .ok .vOk) :
    Config.frameFixed ≤ r.cnt.toNat := by
  obtain ⟨hacc, _, _, h3, len, h4, hfit⟩ := verdictOf_eq_ok h
  by_contra hsmall
  simp only [Config.frameFixed, Config.rxPayFirst] at hsmall hfit
  have hzero : len = 0x00 := BitVec.eq_of_toNat_eq (by simp; omega)
  exact Rxv.cnt_ne_five hi hacc h3 (hzero ▸ h4) (by omega)

theorem Rxv.close_inv {r r' : Rxv} (hi : r.Inv) (h : r.close = .ok r') : r'.Inv := by
  rcases Rxv.close_cases h with ⟨_, rfl⟩ | ⟨_, v, len, hv, rfl, hlen⟩
  · exact hi
  refine ⟨hi.listed, hi.cnt_le, hi.ovf_full, hi.acc_eq, nofun, fun _ => verdictOf_ne_none hv,
    fun hplen => ?_, fun hok => ?_⟩
  · rcases hlen with ⟨hok, _⟩ | ⟨_, hzero⟩
    · exact hok
    · exact absurd hzero hplen
  · rcases hlen with ⟨_, h4⟩ | ⟨hne, _⟩
    · cases hok
      obtain ⟨hacc, h0, h1, h3, len', h4', hfit⟩ := verdictOf_eq_ok hv
      obtain rfl : len' = len := Option.some.inj (h4'.symm.trans h4)
      exact ⟨Rxv.frameFixed_le_cnt (r := r) hi hv, hacc, h0, h1, h3, h4, hfit⟩
    · exact absurd hok hne

theorem Rxv.judge_inv {r r' : Rxv} {b : List Byte} (h : r.judge b = .ok r') : r'.Inv :=
  Rxv.close_inv (Rxv.foldl_present_inv b r.clear_inv) h

theorem RxvEffect.inv {r r' : Rxv} {i : Instr} (h : RxvEffect r i r') (hi : r.Inv) : r'.Inv := by
  cases h with
  | rxclr => exact r.clear_inv
  | rxb d => exact Rxv.present_inv d hi
  | rxend h => exact Rxv.close_inv hi h
  | rxrd k h => exact (Rxv.readRaw_sameBuffer h).inv hi
  | payrd i h => exact (Rxv.readPayload_sameBuffer h).inv hi
  | statusOk _ _ h | statusFail _ _ h => exact Rxv.judge_inv h

/-! ## The builder -/

theorem Txb.reset_inv : Txb.reset.Inv := ⟨by decide⟩

theorem Txb.clear_inv (t : Txb) : t.clear.Inv := ⟨by simp⟩

theorem Txb.start_inv {t : Txb} (addr cmd n : Byte) (hi : t.Inv) : (t.start addr cmd n).Inv := by
  rcases t.start_cases addr cmd n with ⟨_, h⟩ | ⟨_, _, h⟩ | ⟨_, hn, h⟩ <;> rw [h]
  · exact ⟨hi.busy_iff⟩
  · exact ⟨by simp⟩
  · exact ⟨by simpa using hn⟩

/-- While more than the last byte is awaited, TX_REM does not reach 0 (R112). -/
theorem Txb.pay_inv {t : Txb} (d : Byte) (hi : t.Inv) : (t.pay d).Inv := by
  rcases t.pay_cases d with ⟨_, h⟩ | ⟨_, _, h⟩ | ⟨_, hone, h⟩ <;> rw [h]
  · exact ⟨hi.busy_iff⟩
  · exact ⟨by simp⟩
  · exact ⟨by simpa using mt sub_eq_zero.1 hone⟩

theorem Txb.foldl_pay_inv {t : Txb} (p : List Byte) (hi : t.Inv) : (p.foldl Txb.pay t).Inv := by
  induction p generalizing t with
  | nil => exact hi
  | cons d p ih => exact ih (Txb.pay_inv d hi)

theorem Txb.sendFrame_inv {t : Txb} (addr cmd : Byte) (p : List Byte) (hi : t.Inv) :
    (t.sendFrame addr cmd p).Inv :=
  Txb.foldl_pay_inv p (Txb.start_inv addr cmd _ hi)

theorem TxbEffect.inv {t t' : Txb} {i : Instr} (h : TxbEffect t i t') (hi : t.Inv) : t'.Inv := by
  cases h with
  | txbegin addr cmd n => exact Txb.start_inv addr cmd n hi
  | txpay d => exact Txb.pay_inv d hi
  | txclr => exact t.clear_inv

/-! ## The packer -/

theorem Cnp.reset_inv : Cnp.reset.Inv := ⟨nofun⟩

theorem pack_o0 (f : Byte) (id : Half) : (pack f id).o0 = Config.packKey := by
  simp only [pack, packWith, foldOdd, foldEven, packBase]
  split <;> split <;> rfl

/-- Byte 1 is the start constant with bit 0 the top bit of the facility and bit 1 the even parity (R152, R153). -/
theorem pack_o1 (f : Byte) (id : Half) : (pack f id).o1 =
    Config.packStart ^^^ bitByte (f.getLsbD 7) ^^^ (if parity (evenPattern f id) then 0x02 else 0x00) := by
  simp only [pack, packWith, foldOdd, foldEven, packBase]
  split <;> split <;> simp

/-- Two bits of byte 1 vary, so the others are those of the start constant (R158). -/
theorem packStart_bits (top odd : Bool) :
    (Config.packStart ^^^ bitByte top ^^^ (if odd then 0x02 else 0x00)).extractLsb' 3 5 = 0 ∧
      (Config.packStart ^^^ bitByte top ^^^ (if odd then 0x02 else 0x00)).getLsbD 2 = true := by
  revert top odd
  decide

theorem Cnp.packed_inv (f : Byte) (id : Half) : Cnp.Inv { out := pack f id, valid := true } :=
  ⟨fun _ => ⟨pack_o0 f id, pack_o1 f id ▸ packStart_bits _ _⟩⟩

/-! ## The four units under an instruction -/

/-- The invariant without the clauses on the catalog. -/
structure State.UnitsInv (s : State) : Prop where
  rxv : s.rxv.Inv
  txb : s.txb.Inv
  cnp : s.cnp.Inv

theorem State.Inv.units {s : State} (hi : s.Inv) : s.UnitsInv := ⟨hi.rxv, hi.txb, hi.cnp⟩

theorem ExecEffect.unitsInv {s t : State} {i : Instr} (h : ExecEffect s i t) (hi : s.UnitsInv) :
    t.UnitsInv := by
  cases h with
  | nop | xclr | xabs | reserved => exact ⟨hi.rxv, hi.txb, hi.cnp⟩
  | reset => exact ⟨Rxv.reset_inv, Txb.reset_inv, Cnp.reset_inv⟩
  | pack f id => exact ⟨hi.rxv, hi.txb, Cnp.packed_inv f id⟩
  | txb hb => exact ⟨hi.rxv, hb.inv hi.txb, hi.cnp⟩
  | rxv hr => exact ⟨hr.inv hi.rxv, hi.txb, hi.cnp⟩
  | call c hc =>
    obtain ⟨b, _, _, rfl, rfl | ⟨p, rfl⟩, _⟩ := catalogCall_next hc
    · exact ⟨hi.rxv, hi.txb, hi.cnp⟩
    · exact ⟨hi.rxv, Txb.sendFrame_inv c.addr c.command p hi.txb, hi.cnp⟩

end Sys2Proof.Machine
end

section
/-! PROOFS. The clauses of the invariant on the catalog's request and record: what runs leaves the state as the
catalog's look needs it (`State.Watchable`), and the look establishes them (logs 8, 22, 23). -/

namespace Sys2Proof.Machine

/-! ## The payload of a good reply -/

theorem filterMap_range_getElem? {α : Type} (l : List α) (n : Nat) :
    (List.range n).filterMap (fun i => l[i]?) = l.take n := by
  induction n with
  | zero => rfl
  | succ n ih =>
    rw [List.range_succ, List.filterMap_append, ih, List.take_add_one]
    cases h : l[n]? <;> simp [h]

theorem Rxv.payload_eq_take {r : Rxv} {b : List Byte}
    (h : ∀ i < r.plen.toNat, r.buf.read (Config.rxPayFirst + i) = b[Config.rxPayFirst + i]?) :
    r.payload = (b.drop Config.rxPayFirst).take r.plen.toNat := by
  rw [← filterMap_range_getElem?, Rxv.payload]
  refine List.filterMap_congr fun i hi => ?_
  rw [h i (List.mem_range.1 hi), List.getElem?_drop]

/-- Payload byte `i` is location `5 + i` (R28). -/
theorem Rxv.Inv.payload_getElem? {r : Rxv} (hi : r.Inv) {i : Nat} (h : i < r.plen.toNat) :
    r.payload[i]? = r.buf.read (Config.rxPayFirst + i) := by
  rw [Rxv.payload_eq_take (b := r.buf.bytes) fun i _ => Memory.read_range hi.listed _,
    List.getElem?_take_of_lt h, List.getElem?_drop, Memory.read_range hi.listed]

/-! ## What the catalog holds of a reply -/

/-- `got` is the payload of the good reply in the buffer up to some byte, not yet all of it (R182; log 22). -/
def Rxv.HasRead (r : Rxv) (got : List Byte) : Prop :=
  r.done = true ∧ r.verdict = .vOk ∧ got.length < r.plen.toNat ∧ got = r.payload.take got.length

/-- `raw` holds locations of the failed reply in the buffer, with their bytes (R129; log 23). -/
def Rxv.HasRaw (r : Rxv) (raw : Memory) : Prop :=
  r.done = true ∧ r.verdict = .vOpFailed ∧ raw.wf = true ∧ ∀ k v, raw.read k = some v → r.buf.read k = some v

theorem Rxv.SameBuffer.hasRead {r r' : Rxv} {got : List Byte} (h : r.SameBuffer r') (hg : r.HasRead got) :
    r'.HasRead got := by
  obtain ⟨_, _, _, rfl⟩ := h
  exact hg

theorem Rxv.SameBuffer.hasRaw {r r' : Rxv} {raw : Memory} (h : r.SameBuffer r') (hr : r.HasRaw raw) :
    r'.HasRaw raw := by
  obtain ⟨_, _, _, rfl⟩ := h
  exact hr

theorem Rxv.HasRaw.write {r : Rxv} {raw : Memory} {k : Nat} {v : Byte} (h : r.HasRaw raw)
    (hk : r.buf.read k = some v) : r.HasRaw (raw.write k v) := by
  obtain ⟨hd, hv, hwf, hread⟩ := h
  refine ⟨hd, hv, Memory.write_wf k v hwf, fun j w hj => ?_⟩
  by_cases hjk : j = k
  · subst hjk
    rw [Memory.read_write_same] at hj
    exact hk.trans hj
  · rw [Memory.read_write_other raw v hjk] at hj
    exact hread j w hj

/-- What the catalog relies on when it looks after an item: the units' invariants, what it holds of a reply
unless the item opened a new buffer, and that the latch holds the byte of an allowed read (R37). -/
structure State.Watchable (t : State) (n : Notice) : Prop where
  units : t.UnitsInv
  failed_idle : ∀ raw, t.catalog = .opFailed raw → t.request = .idle
  reading : n ≠ .opened → ∀ got, t.request = .reading got → t.rxv.HasRead got
  raw : n ≠ .opened → ∀ raw, t.catalog = .opFailed raw → t.rxv.HasRaw raw
  rxrd : ∀ k, n = .rxrd k → t.rxv.rdOk = true → t.rxv.buf.read k.toNat = some t.rxv.rdData
  payrd : ∀ i, n = .payrd i → t.rxv.rdOk = true →
    t.rxv.buf.read (Config.rxPayFirst + i.toNat) = some t.rxv.rdData

/-! ## The catalog's look establishes the clauses on its fields -/

/-- With no request in flight only what was read of a failed reply is claimed of the catalog. -/
theorem State.UnitsInv.inv_of_idle {s : State} (hi : s.UnitsInv) (hq : s.request = .idle)
    (hraw : ∀ raw, s.catalog = .opFailed raw → s.rxv.HasRaw raw) : s.Inv :=
  ⟨hi.rxv, hi.txb, hi.cnp, fun h => by simp [hq] at h, fun _ h => by simp [hq] at h,
    fun raw h => ⟨hq, hraw raw h⟩⟩

/-- With no `OperationFailed` standing only the request's stage makes a claim. -/
theorem State.UnitsInv.inv_of_not_failed {s : State} (hi : s.UnitsInv)
    (hc : ∀ raw, s.catalog ≠ .opFailed raw) (hopen : s.request = .listening → s.rxv.done = false)
    (hreading : ∀ got, s.request = .reading got → s.rxv.HasRead got) : s.Inv :=
  ⟨hi.rxv, hi.txb, hi.cnp, hopen, hreading, fun raw h => absurd h (hc raw)⟩

theorem State.answer_inv {s : State} (hi : s.UnitsInv) (r : Except CatalogError (List Byte)) :
    (s.answer r).Inv :=
  State.UnitsInv.inv_of_idle ⟨hi.rxv, hi.txb, hi.cnp⟩ rfl nofun

theorem State.awaitPayload_inv {s : State} (hi : s.UnitsInv) (hc : ∀ raw, s.catalog ≠ .opFailed raw)
    {got : List Byte} (hgot : got.length < s.rxv.plen.toNat → s.rxv.HasRead got) :
    (s.awaitPayload got).Inv := by
  rcases s.awaitPayload_cases got with ⟨hlt, h⟩ | ⟨_, h⟩ <;> rw [h]
  · refine State.UnitsInv.inv_of_not_failed ⟨hi.rxv, hi.txb, hi.cnp⟩ hc nofun fun got' h' => ?_
    cases h'
    exact hgot hlt
  · exact State.answer_inv hi _

theorem State.collect_inv {s : State} (hi : s.UnitsInv) (hc : ∀ raw, s.catalog ≠ .opFailed raw) :
    s.collect.Inv := by
  rcases s.collect_cases with ⟨hv, h⟩ | ⟨hv, h⟩ | ⟨hv, h⟩ | ⟨e, h, _⟩ <;> rw [h]
  · exact State.UnitsInv.inv_of_not_failed ⟨hi.rxv, hi.txb, hi.cnp⟩ hc (fun _ => hi.rxv.open_of_none hv) nofun
  · exact State.awaitPayload_inv hi hc fun hlt => ⟨hi.rxv.closed_of_verdict (by simp [hv]), hv, hlt, rfl⟩
  · refine State.UnitsInv.inv_of_idle ⟨hi.rxv, hi.txb, hi.cnp⟩ rfl fun raw hraw => ?_
    cases hraw
    exact ⟨hi.rxv.closed_of_verdict (by simp [hv]), hv, rfl, nofun⟩
  · exact State.answer_inv hi _

theorem State.takeByte_inv {s : State} {i : Byte} (hw : s.Watchable (.payrd i)) {got : List Byte}
    (hq : s.request = .reading got) : (s.takeByte got i).Inv := by
  have hc : ∀ raw, s.catalog ≠ .opFailed raw := fun raw h => by simp [hw.failed_idle raw h] at hq
  obtain ⟨hd, hv, hlt, hgot⟩ := hw.reading nofun got hq
  rcases s.takeByte_cases got i with ⟨hok, hi, h⟩ | ⟨_, h⟩ <;> rw [h]
  · refine State.awaitPayload_inv hw.units hc fun hlt' => ⟨hd, hv, hlt', ?_⟩
    have hbyte : s.rxv.payload[got.length]? = some s.rxv.rdData := by
      rw [hw.units.rxv.payload_getElem? hlt, ← hi]
      exact hw.payrd i rfl hok
    rw [List.length_append, List.length_singleton, List.take_add_one, ← hgot, hbyte, Option.toList_some]
  · exact State.UnitsInv.inv_of_not_failed hw.units hc (by simp [hq]) (hw.reading nofun)

/-- The opening of a new buffer ends the reading of a failed reply (R226; log 23). -/
theorem State.watchFailed_opened_catalog (s : State) (raw : Memory) :
    (s.watchFailed .opened).catalog ≠ .opFailed raw := by
  unfold State.watchFailed
  cases h : s.catalog <;> simp [h]

theorem State.watchFailed_inv {s : State} {n : Notice} (hw : s.Watchable n) (hq : s.request = .idle) :
    (s.watchFailed n).Inv := by
  rcases s.watchFailed_cases n with h | ⟨raw, _, _, h⟩ | ⟨raw, k, hc, rfl, hok, h⟩
  · rw [h]
    refine hw.units.inv_of_idle hq fun raw hc => hw.raw (fun hn => ?_) raw hc
    exact s.watchFailed_opened_catalog raw (hn ▸ h.symm ▸ hc)
  · rw [h]
    exact State.UnitsInv.inv_of_idle ⟨hw.units.rxv, hw.units.txb, hw.units.cnp⟩ hq nofun
  · rw [h]
    refine State.UnitsInv.inv_of_idle ⟨hw.units.rxv, hw.units.txb, hw.units.cnp⟩ hq fun raw' h' => ?_
    cases h'
    exact (hw.raw nofun raw hc).write (hw.rxrd k rfl hok)

theorem State.Watchable.watch_inv {s : State} {n : Notice} (hw : s.Watchable n) : (s.watch n).Inv := by
  have not_failed (hq : s.request ≠ .idle) (raw : Memory) : s.catalog ≠ .opFailed raw :=
    fun hc => hq (hw.failed_idle raw hc)
  rcases s.watch_cases n with ⟨hq, h⟩ | ⟨hq, _, h⟩ | ⟨hq, h⟩ |
    ⟨got, hq, ⟨_, h⟩ | ⟨i, rfl, h⟩ | ⟨hn, _, h⟩⟩ <;> rw [h]
  case inl => exact State.watchFailed_inv hw hq
  case inr.inl => exact hw.units.inv_of_not_failed (not_failed (by simp [hq])) (by simp [hq]) (by simp [hq])
  case inr.inr.inl =>
    exact State.collect_inv hw.units (not_failed (by rcases hq with hq | ⟨hq, _⟩ <;> simp [hq]))
  case inr.inr.inr.inl => exact State.UnitsInv.inv_of_idle ⟨hw.units.rxv, hw.units.txb, hw.units.cnp⟩ rfl nofun
  case inr.inr.inr.inr.inl => exact State.takeByte_inv hw hq
  case inr.inr.inr.inr.inr =>
    exact hw.units.inv_of_not_failed (not_failed (by simp [hq])) (by simp [hq]) (hw.reading hn)

/-! ## What runs leaves the state as the catalog's look needs it -/

theorem State.Inv.hasRead {s : State} (hi : s.Inv) {got : List Byte} (h : s.request = .reading got) :
    s.rxv.HasRead got := hi.reading_prefix got h

theorem State.Inv.hasRaw {s : State} (hi : s.Inv) {raw : Memory} (h : s.catalog = .opFailed raw) :
    s.rxv.HasRaw raw := (hi.raw_read raw h).2

/-- What opens a new buffer needs to keep none of the catalog's clauses, only that no second request starts. -/
theorem State.Inv.watchable_opened {s t : State} (hi : s.Inv) (ht : t.UnitsInv)
    (hq : t.request = s.request) (hc : t.catalog = s.catalog) : t.Watchable .opened where
  units := ht
  failed_idle raw h := hq.trans (hi.raw_read raw (hc ▸ h)).1
  reading h := absurd rfl h
  raw h := absurd rfl h
  rxrd := nofun
  payrd := nofun

theorem RxvEffect.latch_of_rxrd {r r' : Rxv} {i : Instr} {k : BufAddr} (h : RxvEffect r i r')
    (hn : notice i = .rxrd k) (hok : r'.rdOk = true) : r'.buf.read k.toNat = some r'.rdData := by
  cases h with
  | rxrd k' h =>
    cases hn
    rcases Rxv.readRaw_cases h with ⟨_, _, v, hv, rfl⟩ | ⟨_, rfl⟩
    · exact hv
    · cases hok
  | _ => cases hn

theorem RxvEffect.latch_of_payrd {r r' : Rxv} {i : Instr} {j : Byte} (h : RxvEffect r i r')
    (hn : notice i = .payrd j) (hok : r'.rdOk = true) :
    r'.buf.read (Config.rxPayFirst + j.toNat) = some r'.rdData := by
  cases h with
  | payrd j' h =>
    cases hn
    rcases Rxv.readPayload_cases h with ⟨_, _, v, hv, rfl⟩ | ⟨_, rfl⟩
    · exact hv
    · cases hok
  | _ => cases hn

theorem NamedCall.notice_toInstr (c : NamedCall) : notice c.toInstr = .other := by cases c <;> rfl

/-- What the catalog looks for, other than a reset, is run by the validator. -/
theorem part_eq_rxv_of_notice {i : Instr} (h : notice i ≠ .other) (hi : i ≠ .reset) : part i = .rxv := by
  cases i with
  | reset => exact absurd rfl hi
  | rxclr | rxrd | payrd | statusOk | statusFail => rfl
  | _ => exact absurd rfl h

theorem ExecEffect.rxvEffect {s t : State} {i : Instr} (h : ExecEffect s i t) (hp : part i = .rxv) :
    RxvEffect s.rxv i t.rxv := by
  cases h with
  | rxv hr => exact hr
  | nop | reset | xclr | xabs | pack => cases hp
  | reserved hf => simp [hf] at hp
  | txb hb => simp [hb.part_eq] at hp
  | call c hc => simp [NamedCall.part_toInstr] at hp

/-- A call starts a request or leaves it, and whatever its record says it is no `OperationFailed`. -/
theorem watchable_of_call {s t : State} (hi : s.Inv) (ht : t.UnitsInv) (c : NamedCall)
    (h : catalogCall c.addr c.command c.payload s = .next t) : t.Watchable (notice c.toInstr) := by
  obtain ⟨b, q, a, rfl, -, hq, ha⟩ := catalogCall_next h
  rw [NamedCall.notice_toInstr]
  refine ⟨ht, fun raw hr => absurd hr (ha raw), fun _ got hgot => ?_, fun _ raw hr => absurd hr (ha raw),
    nofun, nofun⟩
  rcases hq with rfl | rfl
  · exact hi.hasRead hgot
  · cases hgot

theorem exec_watchable {s t : State} {i : Instr} (hi : s.Inv) (hexec : exec i s = .next t) :
    t.Watchable (notice i) := by
  have h := exec_effect hexec
  have ht := h.unitsInv hi.units
  cases hcall : isCall i with
  | true =>
    obtain ⟨c, rfl⟩ := exists_namedCall hcall
    exact watchable_of_call hi ht c (exec_toInstr c s ▸ hexec)
  | false =>
    obtain ⟨hc, hq⟩ := h.catalog_eq hcall
    by_cases hn : notice i = .opened
    · exact hn ▸ hi.watchable_opened ht hq hc
    have effect (hother : notice i ≠ .other) : RxvEffect s.rxv i t.rxv :=
      h.rxvEffect (part_eq_rxv_of_notice hother fun hr => hn (hr ▸ rfl))
    exact {
      units := ht
      failed_idle := fun raw hraw => hq.trans (hi.raw_read raw (hc ▸ hraw)).1
      reading := fun _ got hgot =>
        have hread := hi.hasRead (hq ▸ hgot)
        (h.sameBuffer_of_closed hread.1 hn).hasRead hread
      raw := fun _ raw hraw =>
        have hread := hi.hasRaw (hc ▸ hraw)
        (h.sameBuffer_of_closed hread.1 hn).hasRaw hread
      rxrd := fun k hk => (effect (by simp [hk])).latch_of_rxrd hk
      payrd := fun j hj => (effect (by simp [hj])).latch_of_payrd hj }

end Sys2Proof.Machine
end

section
/-! PROOFS. The invariant of the machine: the reset state meets it (O53), every step keeps it (O54), and with it
the nine items of R47 hold of every reachable state (O55). -/

namespace Sys2Proof.Machine

/-! ## Steps and runs -/

theorem State.Inv.setIssue {s : State} (hi : s.Inv) (l : List Issue) : (s.setIssue l).Inv :=
  ⟨hi.rxv, hi.txb, hi.cnp, hi.listening_open, hi.reading_prefix, hi.raw_read⟩

theorem presentBuffer_watchable {b : List Byte} {s t : State} (hi : s.Inv)
    (h : presentBuffer b s = .next t) : t.Watchable .opened := by
  obtain ⟨r, hr, rfl⟩ := State.withRxv_eq_next.1 h
  exact hi.watchable_opened ⟨Rxv.judge_inv hr, hi.txb, hi.cnp⟩ rfl rfl

theorem State.transportFailed_inv {s : State} (hi : s.Inv) (e : TransportError) :
    (s.transportFailed e).Inv := by
  rcases s.transportFailed_cases e with ⟨_, h⟩ | ⟨_, h⟩ <;> rw [h]
  · exact hi
  · exact State.answer_inv hi.units _

theorem runRejected_inv {item : Issue} {e : DecodeError} {s t : State} (hi : s.Inv)
    (h : runRejected item e s = .next t) : t.Inv := by
  cases item with
  | buffer b =>
    obtain ⟨u, hu, rfl⟩ := watched_eq_next.1 h
    exact (presentBuffer_watchable hi hu).watch_inv
  | transportFailed report => cases h; exact State.transportFailed_inv hi report
  | word | invoke | call => cases h

theorem step_inv {s t : State} (hi : s.Inv) (h : step s = .next t) : t.Inv := by
  cases hs : s.issue with
  | nil =>
    rw [step_idle hs] at h
    cases h
    exact hi
  | cons item rest =>
    rw [step_item hs] at h
    have hi' := hi.setIssue rest
    cases hd : decode item with
    | instr i =>
      rw [hd] at h
      obtain ⟨u, hu, rfl⟩ := watched_eq_next.1 h
      exact (exec_watchable hi' hu).watch_inv
    | rejected e =>
      rw [hd] at h
      exact runRejected_inv hi' h

theorem State.reset_inv (items : List Issue) : (State.reset.setIssue items).Inv :=
  State.UnitsInv.inv_of_idle ⟨Rxv.reset_inv, Txb.reset_inv, Cnp.reset_inv⟩ rfl nofun

/-- What every step keeps, a run keeps. -/
theorem run_keeps {P : State → Prop} (hstep : ∀ s t, P s → step s = .next t → P t) {n : Nat} {s t : State}
    (hs : P s) (h : Host.Core.run Sys2Proof.core n s = .next t) : P t := by
  induction n generalizing s with
  | zero => cases h; exact hs
  | succ n ih =>
    simp only [Host.Core.run] at h
    split at h
    · next u hu => exact ih (hstep s u hs hu) h
    · cases h
    · cases h

/-- No checksum is summed before the fourth byte (R47 item 9): the buffer holds none to sum. -/
theorem Rxv.Inv.acc_of_short {r : Rxv} (hi : r.Inv) (h : r.cnt.toNat ≤ Config.rxCkFirst) : r.acc = 0x00 := by
  have hovf : r.ovf = false := by
    by_contra ho
    rw [hi.ovf_full (by simpa using ho)] at h
    exact absurd h (by decide)
  rw [hi.acc_eq hovf, List.drop_of_length_le ((Memory.length_bytes hi.listed).trans_le h), xor8_nil]

theorem Verdict.code_bounds {v : Verdict} (h : v ≠ .vNone) : 1 ≤ v.code.toNat ∧ v.code.toNat ≤ 6 := by
  cases v with
  | vNone => exact absurd rfl h
  | _ => decide

theorem State.Inv.listed {s : State} (hi : s.Inv) : ListedInvariants s where
  item1 := hi.rxv.cnt_le
  item2 := hi.rxv.ovf_full
  item3 := hi.rxv.open_none
  item4 h := Verdict.code_bounds (hi.rxv.closed_some h)
  item5 := hi.rxv.plen_ok
  item6 := hi.rxv.ok_facts
  item7 := hi.txb.busy_iff
  item8 := hi.cnp.packed
  item9 := hi.rxv.acc_of_short

end Sys2Proof.Machine
end

section
open Sys2Proof Sys2Proof.Machine

/-- Settles O54: what ran leaves the state as the catalog's look needs it (`exec_watchable`), and the look
then establishes the clauses on the catalog (`State.Watchable.watch_inv`). -/
theorem stepKeepsInvariant : Obligations.StepKeepsInvariant := fun _ _ hi h => step_inv hi h

/-- Settles O53. -/
theorem resetSatisfiesInvariant : Obligations.ResetSatisfiesInvariant := State.reset_inv

/-- Settles O55: the reset state meets the invariant, every step keeps it, and it says the nine items. -/
theorem reachableStatesSatisfyListedInvariants : Obligations.ReachableStatesSatisfyListedInvariants :=
  fun items _ _ h => (run_keeps (fun _ _ => step_inv) (State.reset_inv items) h).listed

end

section
/-! PROOFS. DECODE on the validator is `decode` of the buffer (R132), and after it PAYRD reads the payload back
or is refused (O40). -/

namespace Sys2Proof.Machine

/-! ## What RXBs make of an open validator -/

theorem Rxv.clear_holds (r : Rxv) : r.clear.Holds [] := ⟨rfl, rfl, fun _ _ => rfl, fun _ _ => rfl, rfl⟩

/-- Storing a byte while there is room goes on holding what was presented. -/
theorem Rxv.Holds.store {r : Rxv} {b : List Byte} {d acc : Byte} (hb : r.Holds b)
    (hc : r.cnt.toNat < Config.rxbufDepth) (hacc : acc = xor8 ((b ++ [d]).drop Config.rxCkFirst)) :
    Rxv.Holds { r with buf := r.buf.write r.cnt.toNat d, cnt := r.cnt + 1, acc := acc } (b ++ [d]) := by
  have hlen : r.cnt.toNat = b.length := by have := hb.cnt_eq; omega
  refine ⟨?_, ?_, fun k hk => ?_, fun k hk => ?_, hacc⟩
  · rw [cnt_succ_toNat hc, List.length_append, List.length_singleton]
    omega
  · rw [hb.ovf_eq, List.length_append, List.length_singleton, decide_eq_decide]
    omega
  · rw [hlen]
    by_cases hkb : k = b.length
    · rw [hkb, Memory.read_write_same, List.getElem?_concat_length]
    · rw [Memory.read_write_other _ _ hkb, hb.read_eq k hk]
      by_cases hlt : k < b.length
      · rw [List.getElem?_append_left hlt]
      · rw [List.getElem?_eq_none (by omega), List.getElem?_eq_none (by simp; omega)]
  · rw [Memory.read_write_other _ _ (by omega), hb.unlisted k hk]

theorem Rxv.Holds.present {r : Rxv} {b : List Byte} (d : Byte) (hb : r.Holds b) (hd : r.done = false) :
    (r.present d).Holds (b ++ [d]) := by
  have hcnt := hb.cnt_eq
  have hdepth : Config.rxCkFirst < Config.rxbufDepth := by decide
  have hsum (h : Config.rxCkFirst ≤ r.cnt.toNat) :
      r.acc ^^^ d = xor8 ((b ++ [d]).drop Config.rxCkFirst) := by
    rw [List.drop_append_of_le_length (by omega), xor8_concat, hb.acc_eq]
  rcases r.present_cases d with ⟨hd', _⟩ | ⟨_, hc, h⟩ | ⟨_, hck, hc, h⟩ | ⟨_, hc, h⟩
  · simp [hd] at hd'
  all_goals rw [h]
  · refine hb.store (hc.trans hdepth) ?_
    rw [hb.acc_eq, List.drop_of_length_le (by omega), List.drop_of_length_le (by simp; omega)]
  · exact hb.store hc (hsum hck)
  · refine ⟨?_, ?_, fun k hk => ?_, hb.unlisted, hsum (by omega)⟩
    · change r.cnt.toNat = _
      rw [List.length_append, List.length_singleton]
      omega
    · rw [eq_comm, decide_eq_true_eq, List.length_append, List.length_singleton]
      omega
    · rw [hb.read_eq k hk, List.getElem?_append_left (by omega)]

theorem Rxv.foldl_present_holds {r : Rxv} {b : List Byte} (l : List Byte) (hb : r.Holds b)
    (hd : r.done = false) : (l.foldl Rxv.present r).Holds (b ++ l) := by
  induction l generalizing r b with
  | nil => simpa using hb
  | cons d l ih => simpa using ih (hb.present d hd) ((r.present_done d).trans hd)

theorem Rxv.foldl_present_done (r : Rxv) (l : List Byte) : (l.foldl Rxv.present r).done = r.done := by
  induction l generalizing r with
  | nil => rfl
  | cons d l ih => exact (ih (r.present d)).trans (r.present_done d)

/-! ## The tests of `decode`, in the order of R197 -/

/-- The last byte is the checksum of those before it exactly when all from index 3 on sum to 0x00 (R101, R125). -/
theorem checksum_test_iff {b : List Byte} (h : Config.rxMin ≤ b.length) :
    b.getD (b.length - 1) 0 = xor8 (slice b Config.rxCkFirst (b.length - 1)) ↔
      xor8 (b.drop Config.rxCkFirst) = 0x00 := by
  simp only [Config.rxMin] at h
  have hlast : b.length - 1 < b.length := by omega
  have htail : b.drop (b.length - 1) = [b.getD (b.length - 1) 0] := by
    rw [List.drop_eq_getElem_cons hlast, List.drop_of_length_le (by omega), List.getD_eq_getElem b 0 hlast]
  have hsplit : b.drop Config.rxCkFirst =
      slice b Config.rxCkFirst (b.length - 1) ++ [b.getD (b.length - 1) 0] := by
    rw [slice, ← htail, ← List.drop_append_of_le_length (by simp [Config.rxCkFirst]; omega),
      List.take_append_drop]
  rw [hsplit, xor8_concat]
  exact eq_comm.trans BitVec.xor_eq_zero_iff.symm

theorem frameDecode_short {b : List Byte} (h : b.length < Config.rxMin) : frameDecode b = .malformedFrame :=
  if_pos h

theorem frameDecode_bad_checksum {b : List Byte} (hmin : Config.rxMin ≤ b.length)
    (h : xor8 (b.drop Config.rxCkFirst) ≠ 0x00) : frameDecode b = .checksumMismatch := by
  rw [frameDecode, if_neg (not_lt.2 hmin), if_pos (mt (checksum_test_iff hmin).1 h)]

theorem frameDecode_bad_header {b : List Byte} (hmin : Config.rxMin ≤ b.length)
    (hck : xor8 (b.drop Config.rxCkFirst) = 0x00)
    (h : b.getD 0 0 ≠ Config.rxSync0 ∨ b.getD 1 0 ≠ Config.rxSync1) : frameDecode b = .invalidHeader := by
  rw [frameDecode, if_neg (not_lt.2 hmin), if_neg (not_not.2 ((checksum_test_iff hmin).2 hck)), if_pos h]

/-- After the size, the checksum and the header the status byte decides (R125 steps 4 to 6). -/
theorem frameDecode_status {b : List Byte} (hmin : Config.rxMin ≤ b.length)
    (hck : xor8 (b.drop Config.rxCkFirst) = 0x00)
    (h0 : b.getD 0 0 = Config.rxSync0) (h1 : b.getD 1 0 = Config.rxSync1) :
    frameDecode b =
      if b.getD 3 0 = Config.stOk then
        if Config.rxPayFirst + (b.getD 4 0).toNat > b.length then .malformedFrame
        else .success (slice b Config.rxPayFirst (Config.rxPayFirst + (b.getD 4 0).toNat))
      else if b.getD 3 0 = Config.stFail then .operationFailed b
      else .unexpectedStatus := by
  rw [frameDecode, if_neg (not_lt.2 hmin), if_neg (not_not.2 ((checksum_test_iff hmin).2 hck)),
    if_neg (not_or.2 ⟨not_not.2 h0, not_not.2 h1⟩)]

/-- The payload of a success is the slice that the length byte announces (R125, R10). -/
theorem frameDecode_eq_success {b p : List Byte} (h : frameDecode b = .success p) :
    ∃ n, b[4]? = some n ∧ Config.rxPayFirst + n.toNat ≤ b.length ∧
      p = (b.drop Config.rxPayFirst).take n.toNat := by
  unfold frameDecode at h
  split at h
  · cases h
  split at h
  · cases h
  split at h
  · cases h
  split at h
  · split at h
    · cases h
    · next hfit =>
      simp only [Config.rxPayFirst] at hfit ⊢
      cases h
      have h4 : 4 < b.length := by omega
      refine ⟨b.getD 4 0, ?_, by omega, ?_⟩
      · rw [List.getD_eq_getElem b 0 h4, List.getElem?_eq_getElem h4]
      · rw [slice, List.drop_take, Config.rxPayFirst, Nat.add_sub_cancel_left]
  · split at h <;> cases h

/-! ## RXEND's verdict is that of `decode` -/

/-- The header bytes that the tests read are those of the buffer (R39, R203). -/
theorem Rxv.Holds.getD_eq {r : Rxv} {b : List Byte} {k : Nat} {v : Byte} (hb : r.Holds b)
    (hk : k < Config.rxbufDepth) (h : r.buf.read k = some v) : b.getD k 0 = v := by
  rw [hb.read_eq k hk] at h
  rw [List.getD_eq_getElem?_getD, h, Option.getD_some]

/-- The verdict of RXEND on a validator that holds `b` (R131) is that of `decode(b)` (R125). RX_CNT stands for the
length of `b`, also past 261 bytes, because no test compares it with more than 260. -/
theorem Rxv.Holds.verdict_eq {r : Rxv} {b : List Byte} {v : Verdict} (hb : r.Holds b)
    (h : verdictOf r.cnt r.acc r.buf = .ok v) : v = (frameDecode b).verdict := by
  have hdepth : 4 < Config.rxbufDepth := by decide
  have hcnt (n : Nat) (hn : n < Config.rxbufDepth) : n ≤ r.cnt.toNat ↔ n ≤ b.length := by
    have := hb.cnt_eq
    omega
  have hlen (n : Byte) := hcnt (Config.rxPayFirst + n.toNat) (by
    have := n.isLt
    simp only [Config.rxPayFirst, Config.rxbufDepth]
    omega)
  have hsize := hcnt Config.rxMin (by decide)
  rcases verdictOf_cases h with ⟨rfl, hshort⟩ | ⟨hmin, hlong⟩
  · rw [frameDecode_short (by omega)]; rfl
  rw [hsize] at hmin
  rw [hb.acc_eq] at hlong
  rcases hlong with ⟨rfl, hck⟩ | ⟨hck, b0, b1, h0, h1, htests⟩
  · rw [frameDecode_bad_checksum hmin hck]; rfl
  obtain rfl := hb.getD_eq (by omega) h0
  obtain rfl := hb.getD_eq (by omega) h1
  rcases htests with ⟨rfl, hsync⟩ | ⟨hs0, hs1, status, h3, hstatus⟩
  · rw [frameDecode_bad_header hmin hck hsync]; rfl
  obtain rfl := hb.getD_eq (by omega) h3
  rw [frameDecode_status hmin hck hs0 hs1]
  rcases hstatus with ⟨hok, len, h4, hfits⟩ | ⟨rfl, hfail⟩ | ⟨rfl, hnok, hnfail⟩
  · obtain rfl := hb.getD_eq hdepth h4
    rw [if_pos hok]
    rcases hfits with ⟨rfl, hover⟩ | ⟨rfl, hfit⟩
    · rw [if_pos (by have := hlen (b.getD 4 0); omega)]; rfl
    · rw [if_neg (by have := hlen (b.getD 4 0); omega)]; rfl
  · rw [hfail, if_neg (by decide), if_pos rfl]; rfl
  · rw [if_neg hnok, if_neg hnfail]; rfl

theorem DecodeOutcome.exists_payload {o : DecodeOutcome} (h : o.verdict = .vOk) : ∃ p, o = .success p := by
  cases o with
  | success p => exact ⟨p, rfl⟩
  | _ => cases h

/-- RXEND on an open validator that holds `b` reports `decode(b)` (R132). -/
theorem Rxv.Holds.close_reports {r r' : Rxv} {b : List Byte} (hb : r.Holds b) (hd : r.done = false)
    (h : r.close = .ok r') : r'.Reports b := by
  rcases Rxv.close_cases h with ⟨hd', _⟩ | ⟨_, v, len, hv, rfl, hlen⟩
  · simp [hd] at hd'
  have hverdict := hb.verdict_eq hv
  refine ⟨⟨hb.cnt_eq, hb.ovf_eq, hb.read_eq, hb.unlisted, hb.acc_eq⟩, rfl, hverdict, fun p hp => ?_,
    fun hne => ?_⟩
  · obtain ⟨n, hn, hfit, rfl⟩ := frameDecode_eq_success hp
    have hok : v = .vOk := by rw [hverdict, hp]; rfl
    obtain ⟨_, h4⟩ : v = .vOk ∧ r.buf.read 4 = some len := hlen.resolve_right fun ⟨hne, _⟩ => hne hok
    obtain rfl : n = len := by
      rw [hb.read_eq 4 (by decide), hn] at h4
      exact Option.some.inj h4
    have hbyte := n.isLt
    simp only [Config.rxPayFirst] at hfit
    refine ⟨Rxv.payload_eq_take fun i hi => hb.read_eq _ ?_, by simp [Config.rxPayFirst]; omega⟩
    rw [Rxv.raiseVerdict_plen] at hi
    simp only [Config.rxPayFirst, Config.rxbufDepth]
    omega
  · rcases hlen with ⟨hok, _⟩ | ⟨_, hzero⟩
    · exact absurd hok hne
    · exact hzero

/-- DECODE reports `decode(b)`, whatever the validator held before (R87, R132). -/
theorem Rxv.judge_reports {r r' : Rxv} {b : List Byte} (h : r.judge b = .ok r') : r'.Reports b :=
  (Rxv.foldl_present_holds b r.clear_holds r.clear_done).close_reports
    ((r.clear.foldl_present_done b).trans r.clear_done) h

/-! ## The operations of DECODE in order -/

theorem execList_append (l l' : List Instr) (s : State) :
    execList (l ++ l') s = andThen (execList l s) (execList l') := by
  induction l generalizing s with
  | nil => rfl
  | cons i l ih =>
    rw [List.cons_append, execList, execList]
    cases exec i s with
    | next t => exact ih t
    | fault | refused => rfl

theorem execList_singleton (i : Instr) (s : State) : execList [i] s = exec i s := by
  rw [execList]
  cases exec i s <;> rfl

theorem execList_rxb (b : List Byte) (s : State) :
    execList (b.map .rxb) s = .next (s.setRxv (b.foldl Rxv.present s.rxv)) := by
  induction b generalizing s with
  | nil => rfl
  | cons d b ih => exact ih (s.setRxv (s.rxv.present d))

/-- The pseudo-operation DECODE as its operations, and as one step on the validator (R87; log 7). -/
theorem execList_decodeOps (b : List Byte) (s : State) :
    execList (decodeOps b) s = s.withRxv (s.rxv.judge b) := by
  have hclear : exec .rxclr s = .next (s.setRxv s.rxv.clear) := rfl
  rw [decodeOps, execList_append, execList, hclear, andThen, execList_rxb, andThen, execList_singleton]
  rfl

/-! ## PAYRD after DECODE -/

theorem Rxv.Reports.verdict_eq_ok_iff {r : Rxv} {b : List Byte} (h : r.Reports b) :
    r.verdict = .vOk ↔ ∃ p, frameDecode b = .success p := by
  rw [h.verdict_eq]
  exact ⟨DecodeOutcome.exists_payload, fun ⟨p, hp⟩ => hp ▸ rfl⟩

/-- After a success PAYRD reads the payload below its length and is refused above it (R130, R139). -/
theorem Rxv.Reports.readPayload_success {r r' : Rxv} {b p : List Byte} {i : Byte} (h : r.Reports b)
    (hi : r.Inv) (hp : frameDecode b = .success p) (hread : r.readPayload i = .ok r') :
    r'.rdOk = decide (i.toNat < p.length) ∧ (r'.rdOk = true → p[i.toNat]? = some r'.rdData) := by
  obtain ⟨hpayload, hplen⟩ := h.payload_eq p hp
  have hok := h.verdict_eq_ok_iff.2 ⟨p, hp⟩
  rcases Rxv.readPayload_cases hread with ⟨_, hlt, v, hv, rfl⟩ | ⟨hrefused, rfl⟩
  · refine ⟨by simpa [hplen] using hlt, fun _ => ?_⟩
    rw [← hpayload, hi.payload_getElem? hlt, hv, Rxv.latch_rdData]
  · have hge : ¬ i.toNat < p.length := fun hlt => hrefused ⟨hok, hplen ▸ hlt⟩
    exact ⟨by simp [hge], nofun⟩

/-- After any failure PAYRD is refused (R130). -/
theorem Rxv.Reports.readPayload_failure {r r' : Rxv} {b : List Byte} {i : Byte} (h : r.Reports b)
    (hfail : ∀ p, frameDecode b ≠ .success p) (hread : r.readPayload i = .ok r') : r'.rdOk = false := by
  rcases Rxv.readPayload_cases hread with ⟨hok, _⟩ | ⟨_, rfl⟩
  · obtain ⟨p, hp⟩ := h.verdict_eq_ok_iff.1 hok
    exact absurd hp (hfail p)
  · rfl

end Sys2Proof.Machine
end

section
open Sys2Proof Sys2Proof.Machine

/-- Settles O40: DECODE leaves a validator that reports `decode(b)` (`Rxv.judge_reports`), and PAYRD reads that. -/
theorem payloadReadsBack : Obligations.PayloadReadsBack := by
  intro b i s
  obtain ⟨r, hr⟩ := Rxv.exists_judge s.rxv b
  have hreports := Rxv.judge_reports hr
  have hinv := Rxv.judge_inv hr
  obtain ⟨r', hr'⟩ := Rxv.exists_readPayload hinv i
  refine ⟨s.setRxv r', ?_, fun p hp => hreports.readPayload_success hinv hp hr',
    fun hfail => hreports.readPayload_failure hfail hr'⟩
  have hpayrd : exec (.payrd i) (s.setRxv r) = .next (s.setRxv r') := State.withRxv_eq_next.2 ⟨r', hr', rfl⟩
  rw [execList_append, execList_decodeOps, State.withRxv_eq_next.2 ⟨r, hr, rfl⟩, andThen, execList_singleton,
    hpayrd]

end

section
/-! PROOFS. The values after reset (O12) and the status view (O14). -/

namespace Sys2Proof.Machine

/-- The status view bit by bit, bit 0 first (R43). -/
theorem State.stat_getLsbD (s : State) (i : Nat) : s.stat.getLsbD i =
    if i = 0 then s.rxv.done else if i - 1 < 3 then s.rxv.verdict.code.getLsbD (i - 1)
    else if i - 4 = 0 then s.rxv.ovf else if i - 5 = 0 then s.rxv.drop else if i - 6 = 0 then s.txb.busy
    else if i - 7 = 0 then s.txb.err else if i - 8 = 0 then s.cnp.valid else if i - 9 = 0 then s.opErr
    else if i - 10 = 0 then s.rxv.rdOk else false := by
  unfold State.stat
  change BitVec.getLsbD (w := 5 + 1 + 1 + 1 + 1 + 1 + 1 + 1 + 3 + 1) _ i = _
  rw [BitVec.append_ofBool, BitVec.getLsbD_concat, BitVec.getLsbD_append]
  iterate 7 rw [BitVec.append_ofBool, BitVec.getLsbD_concat]
  simp only [Nat.sub_sub, Nat.reduceAdd, BitVec.ofNat_eq_ofNat, BitVec.getLsbD_zero]

theorem State.stat_verdict (s : State) : s.stat.extractLsb' 1 3 = s.rxv.verdict.code := by
  refine BitVec.eq_of_getLsbD_eq fun i hi => ?_
  rw [BitVec.getLsbD_extractLsb', State.stat_getLsbD]
  simp [hi]

theorem State.stat_high (s : State) : s.stat.extractLsb' 11 5 = 0 := by
  refine BitVec.eq_of_getLsbD_eq fun i hi => ?_
  have habove (k : Nat) (hk : k ≤ 10) : 11 + i - k ≠ 0 := by omega
  have hcode : ¬ 11 + i - 1 < 3 := by omega
  rw [BitVec.getLsbD_extractLsb', State.stat_getLsbD, if_neg (by omega), if_neg hcode]
  simp [habove]

end Sys2Proof.Machine

open Sys2Proof Sys2Proof.Machine

/-- Settles O12: XCLR, RXCLR and TXCLR on the fresh block evaluate to the fresh block. -/
theorem resetStateValues : Obligations.ResetStateValues := by
  refine ⟨?_, rfl⟩
  simp [State.reset, Chk.reset, Rxv.reset, Txb.reset, Cnp.reset]

/-- Settles O14: each single flag is one bit of `State.stat_getLsbD`. -/
theorem statusViewPacksFlags : Obligations.StatusViewPacksFlags := by
  refine ⟨fun s => ?_, by decide⟩
  have bit := s.stat_getLsbD
  exact ⟨bit 0, s.stat_verdict, bit 4, bit 5, bit 6, bit 7, bit 8, bit 9, bit 10, s.stat_high⟩

end

section
/-! PROOFS. What an instruction does as an action on its own unit (R20, R59): what is presented makes no
difference to it, and instructions of different units commute (O57). -/

namespace Sys2Proof.Machine

/-! ## The action of an instruction -/

/-- What TXB's operations and the catalog's calls read and write: TXB, and the catalog's request and record. -/
def State.builder (s : State) : Txb × Request × CallStatus := (s.txb, s.request, s.catalog)

def State.setBuilder (s : State) (b : Txb × Request × CallStatus) : State :=
  ((s.setTxb b.1).setRequest b.2.1).setCatalog b.2.2

/-- What running an instruction of a part of the block is, as a function of the state: the unit's next value
comes from the unit alone, and only the validator can fault (log 9). -/
inductive UnitAction : Part → (State → Host.Outcome State Fault Refusal) → Prop
  | nothing : UnitAction .nothing .next
  | chk (f : Chk → Chk) : UnitAction .chk fun s => .next (s.setChk (f s.chk))
  | txb (f : Txb × Request × CallStatus → Txb × Request × CallStatus) :
      UnitAction .txb fun s => .next (s.setBuilder (f s.builder))
  | rxv (f : Rxv → Except Fault Rxv) : UnitAction .rxv fun s => s.withRxv (f s.rxv)
  | cnp (c : Cnp) : UnitAction .cnp fun s => .next (s.setCnp c)
  | flag : UnitAction .flag fun s => .next s.refuseOp
  | all : UnitAction .all execReset

/-- An operation of the builder leaves the catalog's two fields. -/
theorem UnitAction.txbOnly (f : Txb → Txb) : UnitAction .txb fun s => .next (s.setTxb (f s.txb)) :=
  .txb fun b => (f b.1, b.2)

/-- A call whose preconditions hold, on what it reads and writes: its request is issued, or turned away while one
is in flight (R182, R187; log 20). -/
def sendOrTurnAway (addr cmd : Byte) (p : List Byte) (b : Txb × Request × CallStatus) :
    Txb × Request × CallStatus :=
  if b.2.1 = .idle then (b.1.sendFrame addr cmd p, .sent, .sent) else (b.1, b.2.1, .turnedAway)

theorem catalogCall_ok (addr cmd : Byte) (p : List Byte) : catalogCall addr cmd (.ok p) =
    fun s => .next (s.setBuilder (sendOrTurnAway addr cmd p s.builder)) := by
  funext s
  by_cases hq : s.request = .idle <;> simp [catalogCall, sendOrTurnAway, State.builder, State.setBuilder, hq]

theorem catalogCall_unitAction (addr cmd : Byte) (args : Except CatalogError (List Byte)) :
    UnitAction .txb (catalogCall addr cmd args) := by
  cases args with
  | error e => exact .txb fun b => (b.1, b.2.1, .rejected e)
  | ok p => exact catalogCall_ok addr cmd p ▸ .txb (sendOrTurnAway addr cmd p)

theorem exec_unitAction_of_call {i : Instr} (hi : isCall i = true) : UnitAction (part i) (exec i) := by
  obtain ⟨c, rfl⟩ := exists_namedCall hi
  rw [NamedCall.part_toInstr, show exec c.toInstr = _ from funext (exec_toInstr c)]
  exact catalogCall_unitAction c.addr c.command c.payload

/-- Every instruction is an action of the part of the block that it belongs to. -/
theorem exec_unitAction (i : Instr) : UnitAction (part i) (exec i) := by
  cases i with
  | nop => exact .nothing
  | reset => exact .all
  | reservedD | reservedE | reservedF => exact .flag
  | xclr => exact .chk Chk.clear
  | xabs d => exact .chk (Chk.add · d)
  | pack f id => exact .cnp { out := Machine.pack f id, valid := true }
  | txbegin addr cmd n => exact .txbOnly (Txb.start · addr cmd n)
  | txpay d => exact .txbOnly (Txb.pay · d)
  | txclr => exact .txbOnly Txb.clear
  | rxclr => exact .rxv fun r => .ok r.clear
  | rxb d => exact .rxv fun r => .ok (r.present d)
  | rxend => exact .rxv Rxv.close
  | rxrd k => exact .rxv (Rxv.readRaw · k)
  | payrd i => exact .rxv (Rxv.readPayload · i)
  | statusOk addr rest | statusFail addr rest => exact .rxv (Rxv.judge · _)
  | cmdWriteUid | cmdReadUid | cmdReadSector | cmdWriteSector | cmdChangePassword | cmdReadId
  | cmdWriteChipId | cmdReadAllBlocks | cmdReadContactlessUid | cmdWriteTagSector =>
    exact exec_unitAction_of_call rfl

/-! ## What is presented makes no difference to an instruction -/

/-- The next state, if there is one, with `l` presented. -/
def presenting (l : List Issue) (o : Host.Outcome State Fault Refusal) : Host.Outcome State Fault Refusal :=
  andThen o fun t => .next (t.setIssue l)

theorem UnitAction.setIssue {p : Part} {a : State → Host.Outcome State Fault Refusal} (h : UnitAction p a)
    (s : State) (l : List Issue) : a (s.setIssue l) = presenting l (a s) := by
  cases h with
  | nothing | chk | txb | cnp | flag | all => rfl
  | rxv f =>
    simp only [State.setIssue_rxv]
    cases f s.rxv <;> rfl

theorem watched_presenting (n : Notice) (l : List Issue) (o : Host.Outcome State Fault Refusal) :
    watched n (presenting l o) = presenting l (watched n o) := by
  cases o with
  | next t => exact congrArg _ (t.watch_setIssue n l)
  | fault | refused => rfl

/-! ## Actions of different units -/

/-- The two actions give the same outcome in either order. -/
def OrderFree (a b : State → Host.Outcome State Fault Refusal) : Prop :=
  ∀ s, andThen (a s) b = andThen (b s) a

theorem OrderFree.symm {a b : State → Host.Outcome State Fault Refusal} (h : OrderFree a b) : OrderFree b a :=
  fun s => (h s).symm

/-- What neither reads nor writes RXV can be run before or after the validator, also when that faults. -/
theorem orderFree_withRxv {u : State → State} (f : Rxv → Except Fault Rxv) (hread : ∀ s, (u s).rxv = s.rxv)
    (hwrite : ∀ s r, u (s.setRxv r) = (u s).setRxv r) :
    OrderFree (fun s => .next (u s)) fun s => s.withRxv (f s.rxv) := by
  intro s
  simp only [andThen, hread]
  cases f s.rxv with
  | ok r => exact congrArg Host.Outcome.next (hwrite s r).symm
  | error e => rfl

/-- Two updates of different units commute by computation; the validator's fault is the same in either order. -/
theorem UnitAction.orderFree {p q : Part} {a b : State → Host.Outcome State Fault Refusal}
    (ha : UnitAction p a) (hb : UnitAction q b) (hp : p ∈ [Part.chk, .txb, .rxv, .cnp])
    (hq : q ∈ [Part.chk, .txb, .rxv, .cnp]) (hne : p ≠ q) : OrderFree a b := by
  cases ha with
  | nothing | flag | all => simp at hp
  | chk =>
    cases hb with
    | nothing | flag | all => simp at hq
    | chk => exact absurd rfl hne
    | txb | cnp => exact fun _ => rfl
    | rxv f => exact orderFree_withRxv f (fun _ => rfl) fun _ _ => rfl
  | txb =>
    cases hb with
    | nothing | flag | all => simp at hq
    | txb => exact absurd rfl hne
    | chk | cnp => exact fun _ => rfl
    | rxv f => exact orderFree_withRxv f (fun _ => rfl) fun _ _ => rfl
  | cnp =>
    cases hb with
    | nothing | flag | all => simp at hq
    | cnp => exact absurd rfl hne
    | chk | txb => exact fun _ => rfl
    | rxv f => exact orderFree_withRxv f (fun _ => rfl) fun _ _ => rfl
  | rxv f =>
    cases hb with
    | nothing | flag | all => simp at hq
    | rxv => exact absurd rfl hne
    | chk | txb | cnp => exact .symm (orderFree_withRxv f (fun _ => rfl) fun _ _ => rfl)

theorem execList_pair (i j : Instr) (s : State) : execList [i, j] s = andThen (exec i s) (exec j) := by
  rw [execList, funext (execList_singleton j)]

end Sys2Proof.Machine

open Sys2Proof Sys2Proof.Machine

/-- Settles O57: each instruction is an action of its own unit, and those of different units commute. -/
theorem operationsOfDifferentUnitsCommute : Obligations.OperationsOfDifferentUnitsCommute := by
  intro i j s hi hj hne
  rw [execList_pair, execList_pair]
  exact (exec_unitAction i).orderFree (exec_unitAction j) hi hj hne s

end

section
/-! PROOFS. The decoder gives back every well-formed instruction from its encoding (R70, R71, R80 to R88). -/

namespace Sys2Proof

/-! ## The fields of an operation word -/

@[simp] theorem opField_encodeWord (op : BitVec 4) (a : Byte) (b : Half) : opField (encodeWord op a b) = op := by
  refine BitVec.eq_of_getLsbD_eq fun i hi => ?_
  rw [opField, BitVec.getLsbD_extractLsb', Laws.encodeWord_getLsbD, if_neg (by omega), if_neg (by omega)]
  simp [hi, Nat.sub_sub]

@[simp] theorem aField_encodeWord (op : BitVec 4) (a : Byte) (b : Half) : aField (encodeWord op a b) = a := by
  refine BitVec.eq_of_getLsbD_eq fun i hi => ?_
  rw [aField, BitVec.getLsbD_extractLsb', Laws.encodeWord_getLsbD, if_neg (by omega), if_pos (by omega)]
  simp [hi]

/-- A field of the operand b of a word is that field of b. -/
theorem extractLsb'_encodeWord (op : BitVec 4) (a : Byte) (b : Half) {start len : Nat} (h : start + len ≤ 16) :
    (encodeWord op a b).extractLsb' start len = b.extractLsb' start len := by
  refine BitVec.eq_of_getLsbD_eq fun i hi => ?_
  rw [BitVec.getLsbD_extractLsb', BitVec.getLsbD_extractLsb', Laws.encodeWord_getLsbD, if_pos (by omega)]

@[simp] theorem bField_encodeWord (op : BitVec 4) (a : Byte) (b : Half) : bField (encodeWord op a b) = b := by
  rw [bField, extractLsb'_encodeWord op a b (by decide), BitVec.extractLsb'_eq_self]

@[simp] theorem bHigh_encodeWord (op : BitVec 4) (a cmd n : Byte) : bHigh (encodeWord op a (cmd ++ n)) = cmd := by
  rw [bHigh, extractLsb'_encodeWord op a _ (by decide)]
  exact BitVec.extractLsb'_append_eq_left

@[simp] theorem bLow_encodeWord (op : BitVec 4) (a cmd n : Byte) : bLow (encodeWord op a (cmd ++ n)) = n := by
  rw [bLow, extractLsb'_encodeWord op a _ (by decide)]
  exact BitVec.extractLsb'_append_eq_right

@[simp] theorem bAddr_encodeWord (op : BitVec 4) (a : Byte) (k : BufAddr) :
    bAddr (encodeWord op a (k.setWidth 16)) = k := by
  rw [bAddr, extractLsb'_encodeWord op a _ (by decide)]
  refine BitVec.eq_of_getLsbD_eq fun i hi => ?_
  rw [BitVec.getLsbD_extractLsb', BitVec.getLsbD_setWidth]
  simp [hi]
  omega

/-! ## The frame of a call -/

/-- A length that fits the one-byte length field stands in it unchanged (R73). -/
theorem toNat_lengthByte {n : Nat} (h : n ≤ Config.lenMax) : (BitVec.ofNat 8 n).toNat = n := by
  rw [BitVec.toNat_ofNat, Nat.mod_eq_of_lt (show n < 2 ^ 8 from Nat.lt_succ_of_le h)]

/-- The length byte delimits the payload that was encoded (R70, R73). -/
theorem decodeCall_frameEncode (addr cmd : Byte) {p : List Byte} (h : p.length ≤ Config.lenMax) :
    decodeCall (Machine.frameEncode addr cmd p) = decodeCommand addr cmd p := by
  have hlen : (BitVec.ofNat 8 p.length).toNat = p.length := toNat_lengthByte h
  simp [decodeCall, Machine.frameEncode, Machine.frameCovered, hlen]

/-- Write Sector's payload is told from Change Password's by its length (R174, R175; log 5). -/
theorem decodeCommand_writeSector (addr sector block group : Byte) {password sectorData : List Byte}
    (hpw : password.length = Config.passwordLen)
    (hlen : 3 + password.length + sectorData.length ≠ 2 + 2 * Config.passwordLen) :
    decodeCommand addr 0x14 ([sector, block, group] ++ password ++ sectorData) =
      .instr (.cmdWriteSector addr sector block group password sectorData) := by
  have hother : ¬ ([sector, block, group] ++ password ++ sectorData).length = 0x0E := by
    simp only [Config.passwordLen] at hlen
    simp only [List.length_append, List.length_cons, List.length_nil]
    omega
  have hdata : (password ++ sectorData).drop Config.passwordLen = sectorData := List.drop_left' hpw
  have hpassword : (password ++ sectorData).take Config.passwordLen = password := List.take_left' hpw
  simp only [decodeCommand, if_neg hother]
  simp [Nat.add_comm 3, hdata, hpassword]

theorem decodeCommand_changePassword (addr sector group : Byte) {oldPassword newPassword : List Byte}
    (hold : oldPassword.length = Config.passwordLen) (hnew : newPassword.length = Config.passwordLen) :
    decodeCommand addr 0x14 ([sector, group] ++ oldPassword ++ newPassword) =
      .instr (.cmdChangePassword addr sector group oldPassword newPassword) := by
  have hlen : ([sector, group] ++ oldPassword ++ newPassword).length = 0x0E := by
    simp [hold, hnew, Config.passwordLen]
  have hdrop : (oldPassword ++ newPassword).drop Config.passwordLen = newPassword := List.drop_left' hold
  have htake : (oldPassword ++ newPassword).take Config.passwordLen = oldPassword := List.take_left' hold
  simp only [decodeCommand, if_pos hlen]
  simp [Nat.add_comm 2, hdrop, htake]

/-- The count byte of Write Chip ID is the length of the id (R177). -/
theorem decodeCommand_writeChipId (addr : Byte) {id : List Byte} (h : 1 + id.length ≤ Config.lenMax) :
    decodeCommand addr 0x16 ([BitVec.ofNat 8 id.length] ++ id) = .instr (.cmdWriteChipId addr id) := by
  have hcount : (BitVec.ofNat 8 id.length).toNat = id.length := toNat_lengthByte (by omega)
  simp [decodeCommand, hcount]

/-! ## The round trip -/

/-- Decoding the encoding of a well-formed instruction gives it back. -/
theorem decode_encode {i : Instr} (h : i.wellFormed = true) : decode (encode i) = .instr i := by
  cases i with
  | nop | reset | xclr | xabs | txbegin | txpay | txclr | rxclr | rxb | rxend | rxrd | payrd | pack
  | reservedD | reservedE | reservedF => simp [encode, decode, decodeWord]
  | statusOk | statusFail => rfl
  | cmdReadUid addr => exact decodeCall_frameEncode addr 0x12 (p := []) (Nat.zero_le _)
  | cmdReadId addr => exact decodeCall_frameEncode addr 0x15 (p := []) (Nat.zero_le _)
  | cmdReadContactlessUid addr => exact decodeCall_frameEncode addr 0x19 (p := []) (Nat.zero_le _)
  | cmdWriteUid addr p | cmdWriteTagSector addr p =>
    exact decodeCall_frameEncode addr _ (by simpa [Instr.wellFormed] using h)
  | cmdReadAllBlocks addr group password =>
    exact decodeCall_frameEncode addr _ (by simpa [Instr.wellFormed, Nat.add_comm] using h)
  | cmdReadSector addr sector block group password =>
    have hlen : 3 + password.length ≤ Config.lenMax := by simpa [Instr.wellFormed] using h
    exact (decodeCall_frameEncode addr _ (by simp; omega)).trans (by simp [decodeCommand])
  | cmdWriteSector addr sector block group password sectorData =>
    simp only [Instr.wellFormed, Bool.and_eq_true, decide_eq_true_eq] at h
    obtain ⟨⟨hpw, hlen⟩, hother⟩ := h
    exact (decodeCall_frameEncode addr _ (by simp; omega)).trans
      (decodeCommand_writeSector addr sector block group hpw hother)
  | cmdChangePassword addr sector group oldPassword newPassword =>
    simp only [Instr.wellFormed, Bool.and_eq_true, decide_eq_true_eq] at h
    obtain ⟨hold, hnew⟩ := h
    exact (decodeCall_frameEncode addr _ (by simp [hold, hnew]; decide)).trans
      (decodeCommand_changePassword addr sector group hold hnew)
  | cmdWriteChipId addr id =>
    have hlen : 1 + id.length ≤ Config.lenMax := by simpa [Instr.wellFormed] using h
    exact (decodeCall_frameEncode addr _ (by simpa [Nat.add_comm] using hlen)).trans
      (decodeCommand_writeChipId addr hlen)

end Sys2Proof
end

section
/-! PROOFS. A presented list of instructions runs in its order (O3). -/

namespace Sys2Proof.Machine

/-- A step on a presented well-formed instruction runs it, with the items after it left presented. -/
theorem step_encode {i : Instr} (hi : i.wellFormed = true) (s : State) (l : List Issue) :
    step (s.setIssue (encode i :: l)) = watched (notice i) (exec i (s.setIssue l)) := by
  rw [step_item (State.setIssue_issue s _), decode_encode hi, State.setIssue_setIssue]

/-- What stands presented makes no difference to an instruction and the catalog's look after it. -/
theorem watched_exec_setIssue (i : Instr) (s : State) (l : List Issue) :
    watched (notice i) (exec i (s.setIssue l)) = presenting l (watched (notice i) (exec i s)) := by
  rw [(exec_unitAction i).setIssue, watched_presenting]

/-- A run goes on from what its first step answers. -/
theorem run_succ (n : Nat) (s : State) :
    Host.Core.run Sys2Proof.core (n + 1) s = andThen (step s) (Host.Core.run Sys2Proof.core n) := by
  simp only [Host.Core.run, andThen, Sys2Proof.core]
  cases step s <;> rfl

end Sys2Proof.Machine

open Sys2Proof Sys2Proof.Machine

/-- Settles O3, by induction on the list: each step runs the instruction presented next (`step_encode`), and the
items that are presented after it make no difference to what it does. -/
theorem presentedStreamRunsInOrder : Obligations.PresentedStreamRunsInOrder := by
  intro l s rest hl
  induction l generalizing s with
  | nil => rfl
  | cons i l ih =>
    obtain ⟨hi, hl⟩ := List.forall_mem_cons.1 hl
    rw [List.length_cons, run_succ, List.map_cons, List.cons_append, step_encode hi, runList,
      watched_exec_setIssue, watched_exec_setIssue]
    cases watched (notice i) (exec i s) with
    | next t => exact ih t hl
    | fault | refused => rfl

end

section
/-! PROOFS. A read of a location without a value faults, where RX_CNT or the verdict allows it (O30). -/

namespace Sys2Proof.Machine

theorem Memory.fetch_of_unwritten {m : Memory} {k : Nat} (h : m.read k = none) :
    m.fetch k = .error (.unwrittenLocation k) := by
  rw [Memory.fetch, h]

theorem Rxv.readRaw_unwritten {r : Rxv} {k : BufAddr} (hd : r.done = true) (hk : k.toNat < r.cnt.toNat)
    (h : r.buf.read k.toNat = none) : r.readRaw k = .error (.unwrittenLocation k.toNat) := by
  rw [Rxv.readRaw, if_pos ⟨hd, BitVec.lt_def.2 hk⟩, Memory.fetch_of_unwritten h]
  rfl

theorem Rxv.readPayload_unwritten {r : Rxv} {i : Byte} (hv : r.verdict = .vOk)
    (hi : i.toNat < r.plen.toNat) (h : r.buf.read (Config.rxPayFirst + i.toNat) = none) :
    r.readPayload i = .error (.unwrittenLocation (Config.rxPayFirst + i.toNat)) := by
  rw [Rxv.readPayload, if_pos ⟨hv, (zext9_lt_iff i r.plen).2 hi⟩, payAddr_toNat, Memory.fetch_of_unwritten h]
  rfl

theorem State.withRxv_error {s : State} {x : Except Fault Rxv} {f : Fault} (h : x = .error f) :
    s.withRxv x = .fault f := by
  rw [h, State.withRxv]

end Sys2Proof.Machine

open Sys2Proof Sys2Proof.Machine

/-- Settles O30. -/
theorem unwrittenReadsFault : Obligations.UnwrittenReadsFault :=
  ⟨fun _ _ hd hk h => State.withRxv_error (Rxv.readRaw_unwritten hd hk h),
    fun _ _ hv hi h => State.withRxv_error (Rxv.readPayload_unwritten hv hi h)⟩

end

section
/-! PROOFS. The decoder of operation words: which row a word matches (O9), which fields it reads (O8), and the
written form of an operation (O7). -/

namespace Sys2Proof

/-! ## The row of a word -/

/-- The instruction of a word stands in the row of the word's operation code (R84, R85). -/
theorem tableMatch_decodeWord (w : OpWord) : tableMatch (decodeWord w) = (opField w).toNat * 2 ^ 24 := by
  have hlt := (opField w).isLt
  unfold decodeWord
  interval_cases (opField w).toNat <;> simp [tableMatch]

/-- The mask leaves the operation code, in its place (R85). -/
theorem word_and_mask (w : OpWord) : w &&& 0xF000000 = BitVec.ofNat 28 ((opField w).toNat * 2 ^ 24) := by
  have hlt := (opField w).isLt
  have hw : w = opField w ++ w.extractLsb' 0 24 := (BitVec.extractLsb'_append_extractLsb' (w := 4) (len := 24)).symm
  have hmask : w &&& (BitVec.allOnes 4 ++ 0#24) = opField w ++ 0#24 := by
    conv_lhs => rw [hw, BitVec.and_append, BitVec.and_allOnes, BitVec.and_zero]
  refine BitVec.eq_of_toNat_eq ((congrArg BitVec.toNat hmask).trans ?_)
  rw [BitVec.toNat_append, BitVec.toNat_ofNat, BitVec.toNat_ofNat, Nat.shiftLeft_eq, Nat.zero_mod, Nat.or_zero,
    Nat.mod_eq_of_lt (by omega)]

/-- The reserved operation codes with their instructions (R85, R167). -/
def reservedRows : List (BitVec 4 × Instr) := [(0xD, .reservedD), (0xE, .reservedE), (0xF, .reservedF)]

theorem reservedRows_cases {op : BitVec 4} {i : Instr} (h : (op, i) ∈ reservedRows) :
    (op = 0xD ∧ i = .reservedD) ∨ (op = 0xE ∧ i = .reservedE) ∨ (op = 0xF ∧ i = .reservedF) := by
  simpa [reservedRows] using h

/-- A word is a reserved instruction exactly when it has its operation code: the row of the instruction is that of no
other code, and such a word reads no field. -/
theorem decodeWord_eq_reserved_iff {op : BitVec 4} {i : Instr} (h : (op, i) ∈ reservedRows) (w : OpWord) :
    decodeWord w = i ↔ opField w = op := by
  have hrow : tableMatch i = op.toNat * 2 ^ 24 := by
    rcases reservedRows_cases h with ⟨rfl, rfl⟩ | ⟨rfl, rfl⟩ | ⟨rfl, rfl⟩ <;> simp [tableMatch]
  refine ⟨fun hw => BitVec.eq_of_toNat_eq (Nat.eq_of_mul_eq_mul_right (show 0 < 2 ^ 24 by decide) ?_), fun hw => ?_⟩
  · rw [← tableMatch_decodeWord, hw, hrow]
  · rcases reservedRows_cases h with ⟨rfl, rfl⟩ | ⟨rfl, rfl⟩ | ⟨rfl, rfl⟩ <;> simp [decodeWord, hw]

/-- Every reserved instruction sets OP_ERR and leaves the rest (R167). -/
theorem exec_of_reserved {op : BitVec 4} {i : Instr} (h : (op, i) ∈ reservedRows) (s : Machine.State) :
    Machine.exec i s = .next { s with opErr := true } := by
  rcases reservedRows_cases h with ⟨rfl, rfl⟩ | ⟨rfl, rfl⟩ | ⟨rfl, rfl⟩ <;> rfl

/-! ## The fields of a word that its operation reads -/

@[simp] theorem bHigh_encodeWord_eq (op : BitVec 4) (a : Byte) (b : Half) :
    bHigh (encodeWord op a b) = b.extractLsb' 8 8 :=
  extractLsb'_encodeWord op a b (by decide)

@[simp] theorem bLow_encodeWord_eq (op : BitVec 4) (a : Byte) (b : Half) :
    bLow (encodeWord op a b) = b.extractLsb' 0 8 :=
  extractLsb'_encodeWord op a b (by decide)

@[simp] theorem bAddr_encodeWord_eq (op : BitVec 4) (a : Byte) (b : Half) :
    bAddr (encodeWord op a b) = b.extractLsb' 0 9 :=
  extractLsb'_encodeWord op a b (by decide)

/-- The two bytes of the operand b determine it (R82). -/
theorem extract_bytes_eq_iff {b b' : Half} :
    b.extractLsb' 8 8 = b'.extractLsb' 8 8 ∧ b.extractLsb' 0 8 = b'.extractLsb' 0 8 ↔ b = b' := by
  have hbytes (c : Half) : c.extractLsb' 8 8 ++ c.extractLsb' 0 8 = c :=
    BitVec.extractLsb'_append_extractLsb' (w := 8) (len := 8)
  refine ⟨fun ⟨hhigh, hlow⟩ => ?_, fun h => by simp only [h, and_self]⟩
  rw [← hbytes b, ← hbytes b', hhigh, hlow]

/-- Shape F0: no field is read (R81). -/
theorem decodeWord_F0 {op : BitVec 4} (a : Byte) (b : Half)
    (h : op ∈ ([0x0, 0x1, 0x2, 0x6, 0x7, 0x9, 0xD, 0xE, 0xF] : List (BitVec 4))) :
    decodeWord (encodeWord op a b) = decodeWord (encodeWord op 0 0) := by
  simp only [List.mem_cons, List.not_mem_nil, or_false] at h
  rcases h with rfl | rfl | rfl | rfl | rfl | rfl | rfl | rfl | rfl
  all_goals simp [decodeWord]

/-- Shape FA: exactly the field a is read (R81). -/
theorem decodeWord_FA {op : BitVec 4} {a a' : Byte} (b b' : Half)
    (h : op ∈ ([0x3, 0x5, 0x8, 0xB] : List (BitVec 4))) :
    decodeWord (encodeWord op a b) = decodeWord (encodeWord op a' b') ↔ a = a' := by
  simp only [List.mem_cons, List.not_mem_nil, or_false] at h
  rcases h with rfl | rfl | rfl | rfl
  all_goals simp [decodeWord]

/-- Shape FB: exactly the low nine bits of the field b are read (R81). -/
theorem decodeWord_FB (a a' : Byte) (b b' : Half) :
    decodeWord (encodeWord 0xA a b) = decodeWord (encodeWord 0xA a' b') ↔
      b.extractLsb' 0 9 = b'.extractLsb' 0 9 := by
  simp [decodeWord]

/-- Shape FAB: both fields are read (R81); TXBEGIN reads b as two bytes (R82). -/
theorem decodeWord_FAB {op : BitVec 4} {a a' : Byte} {b b' : Half}
    (h : op ∈ ([0x4, 0xC] : List (BitVec 4))) :
    decodeWord (encodeWord op a b) = decodeWord (encodeWord op a' b') ↔ a = a' ∧ b = b' := by
  simp only [List.mem_cons, List.not_mem_nil, or_false] at h
  rcases h with rfl | rfl
  · simp [decodeWord, extract_bytes_eq_iff]
  · simp [decodeWord]

theorem decode_word_eq_iff (w w' : OpWord) : decode (.word w) = decode (.word w') ↔ decodeWord w = decodeWord w' := by
  simp only [decode, Decoded.instr.injEq]

/-! ## The written form of an operation -/

/-- Only the operations have an encoding that is a word, and the line written for one reads as it (R86). -/
theorem assembleLine_written {i : Instr} {w : OpWord} (h : encode i = .word w) (hD : i ≠ .reservedD)
    (hE : i ≠ .reservedE) (hF : i ≠ .reservedF) : assembleLine (mnemonic i) (writtenOperands i) = some i := by
  cases i with
  | nop | reset | xclr | txclr | rxclr | rxend => simp [assembleLine, mnemonic, writtenOperands]
  | xabs d | txpay d | rxb d | payrd d =>
    simp [assembleLine, mnemonic, writtenOperands, d.isLt]
  | rxrd k => simp [assembleLine, mnemonic, writtenOperands, k.isLt]
  | pack f id => simp [assembleLine, mnemonic, writtenOperands, f.isLt, id.isLt]
  | txbegin addr cmd n => simp [assembleLine, mnemonic, writtenOperands, addr.isLt, cmd.isLt, n.isLt]
  | reservedD => exact absurd rfl hD
  | reservedE => exact absurd rfl hE
  | reservedF => exact absurd rfl hF
  | _ => cases h

end Sys2Proof

open Sys2Proof Sys2Proof.Machine

/-- Settles O5. -/
theorem decodeEncodeRoundTrip : Obligations.DecodeEncodeRoundTrip := fun _ => decode_encode

/-- Settles O6: closed words and one closed frame, evaluated. -/
theorem sampleEncodingsDecode : Obligations.SampleEncodingsDecode := by
  unfold Obligations.SampleEncodingsDecode
  decide

/-- Settles O7. -/
theorem writtenLinesReadBack : Obligations.WrittenLinesReadBack := fun _ _ => assembleLine_written

/-- Settles O8, one shape of R81 at a time. -/
theorem unusedFieldsAreIgnored : Obligations.UnusedFieldsAreIgnored := by
  refine ⟨fun op a b h => ?_, fun op a a' b b' h => ?_, fun a a' b b' => ?_, fun op a a' b b' h => ?_⟩
  all_goals rw [decode_word_eq_iff]
  · exact decodeWord_F0 a b h
  · exact decodeWord_FA b b' h
  · exact decodeWord_FB a a' b b'
  · exact decodeWord_FAB h

/-- Settles O9: the row is that of the operation code, which is all that the mask leaves of the word. -/
theorem everyWordMatchesItsRow : Obligations.EveryWordMatchesItsRow := by
  intro w
  have hD : (0xD, Instr.reservedD) ∈ reservedRows := by simp [reservedRows]
  have hE : (0xE, Instr.reservedE) ∈ reservedRows := by simp [reservedRows]
  have hF : (0xF, Instr.reservedF) ∈ reservedRows := by simp [reservedRows]
  refine ⟨decodeWord w, rfl, ?_, tableMatch_decodeWord w, ⟨decodeWord_eq_reserved_iff hD w,
    decodeWord_eq_reserved_iff hE w, decodeWord_eq_reserved_iff hF w⟩, fun hop s => ?_⟩
  · rw [word_and_mask, tableMatch_decodeWord]
  · rcases hop with h | h | h
    · exact exec_of_reserved ((decodeWord_eq_reserved_iff hD w).2 h ▸ hD) s
    · exact exec_of_reserved ((decodeWord_eq_reserved_iff hE w).2 h ▸ hE) s
    · exact exec_of_reserved ((decodeWord_eq_reserved_iff hF w).2 h ▸ hF) s

end

section
/-! PROOFS. What a list of operations makes of one part of the state: only the operations on that part count (R59),
and XCLR with XABSs leaves the checksum (O16). -/

namespace Sys2Proof.Machine

/-! ## The operations that count for a part of the state -/

/-- When the operations outside `own` keep what `view` shows, and what those inside make of it depends on nothing
else, then a list of operations makes of it what its own operations alone do, from any state that agrees there. -/
theorem execList_filter {α : Type} {view : State → α} {own : Instr → Bool}
    (hkeep : ∀ i s t, own i = false → exec i s = .next t → view t = view s)
    (hown : ∀ i s s' t, own i = true → view s' = view s → exec i s = .next t →
      ∃ t', exec i s' = .next t' ∧ view t' = view t)
    {ops : List Instr} {s s' t : State} (hs : view s' = view s) (h : execList ops s = .next t) :
    ∃ t', execList (ops.filter own) s' = .next t' ∧ view t' = view t := by
  induction ops generalizing s s' with
  | nil => cases h; exact ⟨s', rfl, hs⟩
  | cons i ops ih =>
    rw [execList] at h
    cases hi : exec i s with
    | fault | refused => rw [hi] at h; cases h
    | next u =>
      rw [hi] at h
      cases hcounts : own i with
      | false =>
        rw [List.filter_cons_of_neg (by simp [hcounts])]
        exact ih (hs.trans (hkeep i s u hcounts hi).symm) h
      | true =>
        obtain ⟨u', hu', hview⟩ := hown i s s' u hcounts hs hi
        obtain ⟨t', ht', hview'⟩ := ih hview h
        exact ⟨t', by rw [List.filter_cons_of_pos hcounts, execList, hu']; exact ht', hview'⟩

/-! ## The checksum -/

/-- The unit CHK is written by its own operations and RESET, which read no other unit (R45, R101). -/
theorem exec_chk_of_not_touches (i : Instr) (s t : State) (hi : touchesChk i = false) (h : exec i s = .next t) :
    t.chk = s.chk := by
  have hpart : ¬ part i = .chk ∧ ¬ part i = .all := by simpa [touchesChk] using hi
  refine ((exec_effect h).other_units ?_).1 hpart.1
  rintro rfl
  exact hpart.2 rfl

theorem exec_chk_of_touches (i : Instr) (s s' t : State) (hi : touchesChk i = true) (hs : s'.chk = s.chk)
    (h : exec i s = .next t) : ∃ t', exec i s' = .next t' ∧ t'.chk = t.chk := by
  cases exec_effect h with
  | reset | xclr => exact ⟨_, rfl, rfl⟩
  | xabs d => exact ⟨_, rfl, congrArg (Chk.add · d) hs⟩
  | nop | pack => cases hi
  | reserved hp => simp [touchesChk, hp] at hi
  | txb hb => simp [touchesChk, hb.part_eq] at hi
  | rxv hr => simp [touchesChk, hr.part_eq] at hi
  | call c hc => simp [touchesChk, NamedCall.part_toInstr] at hi

theorem execList_xabs (l : List Byte) (s : State) :
    execList (l.map .xabs) s = .next (s.setChk { acc := l.foldl absorb s.chk.acc }) := by
  induction l generalizing s with
  | nil => rfl
  | cons d l ih => exact ih (s.setChk (s.chk.add d))

/-- CHECKSUM leaves the checksum of its bytes in X_ACC (R87, R101). -/
theorem execList_checksumOps (l : List Byte) (s : State) :
    execList (checksumOps l) s = .next (s.setChk { acc := xor8 l }) :=
  execList_xabs l (s.setChk s.chk.clear)

/-- Absorbing is commutative, so the order of the bytes does not matter (R104). -/
theorem xor8_perm {l l' : List Byte} (h : l'.Perm l) : xor8 l' = xor8 l :=
  haveI : RightCommutative (absorb) := ⟨fun a b c => by
    rw [absorb, absorb, absorb, absorb, BitVec.xor_assoc, BitVec.xor_comm b c, ← BitVec.xor_assoc]⟩
  h.foldl_eq (f := absorb) 0x00

end Sys2Proof.Machine

open Sys2Proof Sys2Proof.Machine

/-- Settles O16: operations of other units do not count for CHK (`execList_filter`), and those of CHK are CHECKSUM of
the permuted bytes. -/
theorem checksumSequenceGivesXor8 : Obligations.ChecksumSequenceGivesXor8 := by
  refine ⟨execList_checksumOps, fun l l' ops s t hperm hops h => ?_⟩
  obtain ⟨t', ht', hchk⟩ := execList_filter exec_chk_of_not_touches exec_chk_of_touches (Eq.refl s.chk) h
  rw [hops, execList_checksumOps] at ht'
  cases ht'
  rw [← hchk, State.setChk_chk, xor8_perm hperm]

end

section
/-! PROOFS. The outbound frame: its layout (O23), ENCODE on an idle builder (O21), and the catalog's calls as ENCODE
(O48) or as an error that issues nothing (O50). -/

namespace Sys2Proof.Machine

/-! ## Layout -/

theorem length_frameEncode (addr cmd : Byte) (p : List Byte) : (frameEncode addr cmd p).length = 6 + p.length := by
  simp [frameEncode, frameCovered]
  omega

theorem length_inboundFrame (addr status : Byte) (p : List Byte) :
    (inboundFrame addr status p).length = 6 + p.length := by
  simp [inboundFrame]
  omega

/-- A slice that ends where the first part of the list ends is one of that part. -/
theorem slice_append_of_length {l : List Byte} {j : Nat} (h : l.length = j) (l' : List Byte) (i : Nat) :
    slice (l ++ l') i j = l.drop i := by
  rw [slice, List.take_left' h]

/-- The five bytes before the payload, the payload, and the checksum byte (R70). -/
theorem frameEncode_eq_append (addr cmd : Byte) (p : List Byte) : frameEncode addr cmd p =
    ([Config.txSync0, Config.txSync1, addr, cmd, BitVec.ofNat 8 p.length] ++ p)
      ++ [xor8 (frameCovered addr cmd p)] := rfl

theorem length_header_payload (b0 b1 b2 b3 b4 : Byte) (p : List Byte) :
    ([b0, b1, b2, b3, b4] ++ p).length = 5 + p.length := by
  simp
  omega

/-- What stands before the checksum byte, from any index on. -/
theorem slice_frameEncode (addr cmd : Byte) (p : List Byte) (i : Nat) :
    slice (frameEncode addr cmd p) i (5 + p.length) =
      ([Config.txSync0, Config.txSync1, addr, cmd, BitVec.ofNat 8 p.length] ++ p).drop i := by
  rw [frameEncode_eq_append, slice_append_of_length (length_header_payload _ _ _ _ _ p)]

/-- The byte after the payload is the checksum of indices 2 to 4+n (R70, R74). -/
theorem frameEncode_checksum (addr cmd : Byte) (p : List Byte) : (frameEncode addr cmd p)[5 + p.length]? =
    some (xor8 (slice (frameEncode addr cmd p) 2 (5 + p.length))) := by
  rw [slice_frameEncode, frameEncode_eq_append, ← length_header_payload _ _ _ _ _ p, List.getElem?_concat_length]
  rfl

/-! ## ENCODE -/

theorem execList_txpay (p : List Byte) (s : State) :
    execList (p.map .txpay) s = .next (s.setTxb (p.foldl Txb.pay s.txb)) := by
  induction p generalizing s with
  | nil => rfl
  | cons d p ih => exact ih (s.setTxb (s.txb.pay d))

/-- The pseudo-operation ENCODE as its operations, and as one step on the builder (R87; log 4). -/
theorem execList_encodeOps (addr cmd : Byte) (p : List Byte) (s : State) :
    execList (encodeOps addr cmd p) s = .next (s.setTxb (s.txb.sendFrame addr cmd p)) :=
  execList_txpay p (s.setTxb (s.txb.start addr cmd (BitVec.ofNat 8 p.length)))

/-! ## Calls whose arguments pass -/

theorem mem_readAllGroups {group : Byte} : group ∈ Config.readAllGroups ↔ group = 0x0A ∨ group = 0x0B := by
  simp [Config.readAllGroups]

theorem fitPayload_of_le {p : List Byte} (h : p.length ≤ Config.lenMax) : fitPayload p = .ok p := if_pos h

/-- A call whose arguments pass is its ENCODE with the record that it was sent, or is turned away (R182; log 20). -/
theorem catalogCall_eq_encode {args : Except CatalogError (List Byte)} {p : List Byte} (h : args = .ok p)
    (addr cmd : Byte) (s : State) : catalogCall addr cmd args s =
      if s.request = .idle then
        andThen (execList (encodeOps addr cmd p) s) (fun t => .next ((t.setRequest .sent).setCatalog .sent))
      else .next (s.setCatalog .turnedAway) := by
  rw [h, execList_encodeOps]
  rfl

section
variable (sector block group : Byte) {pw pw' data : List Byte}

theorem readSectorPayload_ok (hpw : pw.length = Config.passwordLen) :
    readSectorPayload sector block group pw = .ok ([sector, block, group] ++ pw) :=
  (if_neg (not_not.2 hpw)).trans (fitPayload_of_le (by simp [hpw, Config.passwordLen, Config.lenMax]))

theorem writeSectorPayload_ok (hpw : pw.length = Config.passwordLen) (hdata : data.length ≤ 246) :
    writeSectorPayload sector block group pw data = .ok ([sector, block, group] ++ pw ++ data) :=
  (if_neg (not_not.2 hpw)).trans
    (fitPayload_of_le (by simp [hpw, Config.passwordLen, Config.lenMax]; omega))

theorem changePasswordPayload_ok (hpw : pw.length = Config.passwordLen) (hpw' : pw'.length = Config.passwordLen) :
    changePasswordPayload sector group pw pw' = .ok ([sector, group] ++ pw ++ pw') :=
  (if_neg (not_not.2 hpw)).trans <| (if_neg (not_not.2 hpw')).trans
    (fitPayload_of_le (by simp [hpw, hpw', Config.passwordLen, Config.lenMax]))

theorem readAllBlocksPayload_ok {group : Byte} (hgroup : group ∈ Config.readAllGroups)
    (hpw : pw.length = Config.passwordLen) : readAllBlocksPayload group pw = .ok ([group] ++ pw) :=
  (if_neg (not_not.2 hgroup)).trans <| (if_neg (not_not.2 hpw)).trans
    (fitPayload_of_le (by simp [hpw, Config.passwordLen, Config.lenMax]))

theorem writeChipIdPayload_ok {id : List Byte} (h : id.length ≤ 254) :
    writeChipIdPayload id = .ok (BitVec.ofNat 8 id.length :: id) :=
  fitPayload_of_le (by simp [Config.lenMax]; omega)

end

/-! ## Calls that are rejected -/

/-- The constraint names the length of the payload that does not fit (R181; log 11). -/
theorem fitPayload_of_length {p : List Byte} {n : Nat} (hn : p.length = n) (h : Config.lenMax < n) :
    fitPayload p = .error (.invalidArgument (.payloadLength n)) := by
  rw [← hn] at h ⊢
  exact if_neg (not_le.2 h)

/-- A rejected call changes the catalog's record only (R181). -/
theorem catalogCall_of_error {args : Except CatalogError (List Byte)} {e : CatalogError} (h : args = .error e)
    (addr cmd : Byte) (s : State) : catalogCall addr cmd args s = .next { s with catalog := .rejected e } := by
  rw [h]
  rfl

end Sys2Proof.Machine

open Sys2Proof Sys2Proof.Machine

/-- Settles O23. -/
theorem frameSizesAndFields : Obligations.FrameSizesAndFields := by
  intro addr x p hp
  have hlen := length_frameEncode addr x p
  refine ⟨⟨rfl, rfl, rfl, rfl, ?_, slice_frameEncode addr x p 5, frameEncode_checksum addr x p, hlen, by omega,
    by omega⟩, length_inboundFrame addr x p⟩
  exact congrArg some (toNat_lengthByte hp)

/-- Settles O21: ENCODE is `Txb.sendFrame`, which appends the frame to what an idle builder has sent. -/
theorem encodeSequenceBuildsFrame : Obligations.EncodeSequenceBuildsFrame := by
  intro addr cmd p s hp hb
  rw [execList_encodeOps, Txb.sendFrame_idle addr cmd hb hp]
  rfl

/-- Settles O48: each call's payload validator accepts, and an accepted call is its ENCODE. -/
theorem callsIssueExactlyEncode : Obligations.CallsIssueExactlyEncode := by
  intro addr sector block group pw pw' uid id data s hpw hpw' huid hid hdata
  refine ⟨?_, ?_, ?_, ?_, ?_, ?_, ?_, ?_, fun hgroup => ?_⟩
  · exact catalogCall_eq_encode rfl addr 0x12 s
  · exact catalogCall_eq_encode rfl addr 0x15 s
  · exact catalogCall_eq_encode rfl addr 0x19 s
  · exact catalogCall_eq_encode (fitPayload_of_le huid) addr 0x11 s
  · exact catalogCall_eq_encode (writeChipIdPayload_ok hid) addr 0x16 s
  · exact catalogCall_eq_encode (readSectorPayload_ok sector block group hpw) addr 0x12 s
  · exact catalogCall_eq_encode (writeSectorPayload_ok sector block group hpw hdata) addr 0x14 s
  · exact catalogCall_eq_encode (changePasswordPayload_ok sector group hpw hpw') addr 0x14 s
  · exact catalogCall_eq_encode (readAllBlocksPayload_ok (mem_readAllGroups.2 hgroup) hpw) addr 0x17 s

/-- Settles O50: each payload validator answers the error of its first test that fails. -/
theorem oversizedPayloadsAreRejected : Obligations.OversizedPayloadsAreRejected := by
  intro addr sector block group pw q l s
  refine ⟨fun hl => ?_, fun hl => ?_, fun hpw hl => ?_, fun hpw => ⟨?_, ?_, ?_, fun hgroup => ?_⟩,
    fun hpw hq => ?_, fun hA hB => ?_⟩
  · exact catalogCall_of_error (fitPayload_of_length rfl hl) addr 0x11 s
  · have hlen : ([BitVec.ofNat 8 l.length] ++ l).length = 1 + l.length := by simp; omega
    exact catalogCall_of_error (fitPayload_of_length hlen (show 255 < _ by omega)) addr 0x16 s
  · have hlen : ([sector, block, group] ++ pw ++ l).length = 9 + l.length := by simp [hpw]; omega
    exact catalogCall_of_error ((if_neg (not_not.2 hpw)).trans
      (fitPayload_of_length hlen (show 255 < _ by omega))) addr 0x14 s
  · exact catalogCall_of_error (if_pos hpw) addr 0x12 s
  · exact catalogCall_of_error (if_pos hpw) addr 0x14 s
  · exact catalogCall_of_error (if_pos hpw) addr 0x14 s
  · have hmem := mem_readAllGroups.2 hgroup
    exact catalogCall_of_error ((if_neg (not_not.2 hmem)).trans (if_pos hpw)) addr 0x17 s
  · exact catalogCall_of_error ((if_neg (not_not.2 hpw)).trans (if_pos hq)) addr 0x14 s
  · have hmem : group ∉ Config.readAllGroups := fun h => (mem_readAllGroups.1 h).elim hA hB
    exact catalogCall_of_error (if_pos hmem) addr 0x17 s

end

section
/-! PROOFS. DECODE of a buffer, as its operations (O31), presented whole (O4) and as a status row (O33): the validator
reports `decode` of the buffer. The outcome of a well-formed inbound frame (O34). -/

namespace Sys2Proof.Machine

/-! ## DECODE on the validator -/

/-- RXB does not write the result latch (R37). -/
theorem Rxv.present_latch (r : Rxv) (d : Byte) :
    (r.present d).rdData = r.rdData ∧ (r.present d).rdOk = r.rdOk := by
  rcases r.present_cases d with ⟨_, h⟩ | ⟨_, _, h⟩ | ⟨_, _, _, h⟩ | ⟨_, _, h⟩
  all_goals rw [h]; exact ⟨rfl, rfl⟩

theorem Rxv.foldl_present_latch (r : Rxv) (b : List Byte) :
    (b.foldl Rxv.present r).rdData = r.rdData ∧ (b.foldl Rxv.present r).rdOk = r.rdOk := by
  induction b generalizing r with
  | nil => exact ⟨rfl, rfl⟩
  | cons d b ih =>
    obtain ⟨hdata, hok⟩ := r.present_latch d
    exact ⟨(ih _).1.trans hdata, (ih _).2.trans hok⟩

theorem Rxv.close_latch {r r' : Rxv} (h : r.close = .ok r') : r'.rdData = r.rdData ∧ r'.rdOk = r.rdOk := by
  rcases Rxv.close_cases h with ⟨_, rfl⟩ | ⟨_, v, len, _, rfl, _⟩ <;> exact ⟨rfl, rfl⟩

/-- DECODE keeps the result latch, since RXCLR, RXB and RXEND do (R37, R128). -/
theorem Rxv.judge_latch {r r' : Rxv} {b : List Byte} (h : r.judge b = .ok r') :
    r'.rdData = r.rdData ∧ r'.rdOk = r.rdOk := by
  obtain ⟨hdata, hok⟩ := Rxv.close_latch h
  obtain ⟨hdata', hok'⟩ := Rxv.foldl_present_latch r.clear b
  exact ⟨hdata.trans hdata', hok.trans hok'⟩

/-- DECODE of any buffer, from any validator: it is judged, nothing was dropped, the result latch stays (R87, R132). -/
theorem Rxv.exists_judged (r : Rxv) (b : List Byte) :
    ∃ r', r.judge b = .ok r' ∧ r'.Reports b ∧ r'.drop = false ∧ r'.rdData = r.rdData ∧ r'.rdOk = r.rdOk :=
  (r.exists_judge b).imp fun _ h => ⟨h, Rxv.judge_reports h, Rxv.judge_drop h, Rxv.judge_latch h⟩

/-! ## The views of RXBUF -/

/-- A view of a validator that holds `b` shows its byte, where `b` has one (R39). -/
theorem Rxv.Holds.view_eq {r : Rxv} {b : List Byte} {k : Nat} (h : r.Holds b) (hk : k < Config.rxbufDepth) :
    r.view k = b[k]? := by
  have hcnt := h.cnt_eq
  rw [Rxv.view, h.read_eq k hk]
  split
  · rfl
  · rw [List.getElem?_eq_none (by omega)]

/-- A view is defined exactly below RX_CNT, and is then its location (R39). -/
theorem Rxv.Inv.view_cases {r : Rxv} (hi : r.Inv) (k : Nat) :
    if k + 1 ≤ r.cnt.toNat then ∃ v, r.view k = some v ∧ r.buf.read k = some v else r.view k = none := by
  split
  next hk =>
    obtain ⟨v, hv⟩ := Memory.exists_read_of_lt hi.listed hk
    exact ⟨v, (if_pos hk).trans hv, hv⟩
  next hk => exact if_neg hk

/-! ## A buffer presented whole -/

/-- The two status rows are buffers presented whole (R72, R88). -/
theorem exec_of_decodeBuffer {b : List Byte} {i : Instr} (h : decodeBuffer b = .instr i) :
    exec i = presentBuffer b ∧ notice i = .opened := by
  unfold decodeBuffer at h
  split at h
  · split at h
    · next hsync =>
      obtain ⟨rfl, rfl⟩ := hsync
      split at h
      · next hok => subst hok; cases h; exact ⟨rfl, rfl⟩
      · split at h
        · next hfail => subst hfail; cases h; exact ⟨rfl, rfl⟩
        · cases h
    · cases h
  · cases h

/-- A step on a presented buffer is DECODE of it, whether it matches a row or not (R87; log 7). -/
theorem step_buffer {s : State} {b : List Byte} {rest : List Issue} (h : s.issue = .buffer b :: rest) :
    step s = watched .opened (presentBuffer b (s.setIssue rest)) := by
  rw [step_item h, decode]
  cases hd : decodeBuffer b with
  | rejected e => rfl
  | instr i =>
    obtain ⟨hexec, hnotice⟩ := exec_of_decodeBuffer hd
    change watched (notice i) (exec i (s.setIssue rest)) = _
    rw [hexec, hnotice]

theorem presentBuffer_eq_next {b : List Byte} {s : State} {r : Rxv} (h : s.rxv.judge b = .ok r) :
    presentBuffer b s = .next (s.setRxv r) :=
  State.withRxv_eq_next.2 ⟨r, h, rfl⟩

/-! ## `decode` of a buffer with the sync bytes -/

/-- Past the size and the header only the checksum and the status are left to test (R125). -/
theorem frameDecode_synced {b : List Byte} {addr status : Byte} {rest : List Byte}
    (hb : b = [Config.rxSync0, Config.rxSync1, addr, status] ++ rest) :
    frameDecode b =
      if xor8 (status :: rest) = 0x00 then
        if status = Config.stOk then
          if Config.rxPayFirst + (b.getD 4 0).toNat > b.length then .malformedFrame
          else .success (slice b Config.rxPayFirst (Config.rxPayFirst + (b.getD 4 0).toNat))
        else if status = Config.stFail then .operationFailed b
        else .unexpectedStatus
      else .checksumMismatch := by
  subst hb
  have hmin : Config.rxMin ≤ ([Config.rxSync0, Config.rxSync1, addr, status] ++ rest).length := by
    simp [Config.rxMin]
  split
  next hck => exact frameDecode_status hmin hck rfl rfl
  next hck => exact frameDecode_bad_checksum hmin hck

/-- A buffer of the row STATUS_OK: no verdict but these three is left (R125). -/
theorem verdict_statusOk {b : List Byte} {addr : Byte} {rest : List Byte}
    (hb : b = [Config.rxSync0, Config.rxSync1, addr, Config.stOk] ++ rest) :
    (frameDecode b).verdict = .vOk ∨ (frameDecode b).verdict = .vMalformed ∨
      (frameDecode b).verdict = .vChecksum := by
  rw [frameDecode_synced hb, if_pos rfl]
  split
  · split
    · exact .inr (.inl rfl)
    · exact .inl rfl
  · exact .inr (.inr rfl)

/-- A buffer of the row STATUS_FAIL: only its checksum is left to test (R125). -/
theorem verdict_statusFail {b : List Byte} {addr : Byte} {rest : List Byte}
    (hb : b = [Config.rxSync0, Config.rxSync1, addr, Config.stFail] ++ rest) :
    ((frameDecode b).verdict = .vOpFailed ∧ xor8 (Config.stFail :: rest) = 0x00) ∨
      ((frameDecode b).verdict = .vChecksum ∧ xor8 (Config.stFail :: rest) ≠ 0x00) := by
  rw [frameDecode_synced hb, if_neg (show Config.stFail ≠ Config.stOk by decide), if_pos rfl]
  split
  next hck => exact .inl ⟨rfl, hck⟩
  next hck => exact .inr ⟨rfl, hck⟩

/-- A well-formed frame as the bytes that are tested one by one and the rest that the checksum closes (R71). -/
theorem inboundFrame_eq_append (addr status : Byte) (p : List Byte) : inboundFrame addr status p =
    [Config.rxSync0, Config.rxSync1, addr, status] ++
      (BitVec.ofNat 8 p.length :: p ++ [xor8 ([status, BitVec.ofNat 8 p.length] ++ p)]) := rfl

/-- The checksum byte of a well-formed frame makes the bytes from index 3 on sum to 0x00 (R71, R101), and its length
byte is that of the payload, so the status byte decides. -/
theorem frameDecode_inboundFrame (addr status : Byte) {p : List Byte} (hp : p.length ≤ Config.lenMax) :
    frameDecode (inboundFrame addr status p) =
      if status = Config.stOk then .success p
      else if status = Config.stFail then .operationFailed (inboundFrame addr status p)
      else .unexpectedStatus := by
  have hck : xor8 (status :: (BitVec.ofNat 8 p.length :: p
      ++ [xor8 ([status, BitVec.ofNat 8 p.length] ++ p)])) = 0x00 := by
    rw [← List.cons_append, xor8_concat]
    exact BitVec.xor_self
  have hlen : ((inboundFrame addr status p).getD 4 0).toNat = p.length := toNat_lengthByte hp
  have hfits : ¬ Config.rxPayFirst + p.length > 6 + p.length := by simp [Config.rxPayFirst]
  have hslice : slice (inboundFrame addr status p) Config.rxPayFirst (Config.rxPayFirst + p.length) = p :=
    slice_append_of_length (length_header_payload _ _ _ _ _ p) _ _
  rw [frameDecode_synced (inboundFrame_eq_append addr status p), if_pos hck, hlen, length_inboundFrame,
    if_neg hfits, hslice]

end Sys2Proof.Machine

open Sys2Proof Sys2Proof.Machine

/-- Settles O31: DECODE is `Rxv.judge`, and the views are those of a validator that holds the buffer. -/
theorem decodeSequenceReportsOutcome : Obligations.DecodeSequenceReportsOutcome := by
  refine ⟨fun b s => ?_, fun s hi => ⟨hi.view_cases 2, hi.view_cases 3, hi.view_cases 4⟩⟩
  obtain ⟨r, hr, hreports, hdrop, hdata, hok⟩ := s.rxv.exists_judged b
  have view {k : Nat} (hk : k < Config.rxbufDepth) : r.view k = b[k]? := hreports.holds.view_eq hk
  exact ⟨r, by rw [execList_decodeOps, hr]; rfl, hreports, hdrop, hdata, hok, view (by decide), view (by decide),
    view (by decide)⟩

/-- Settles O4: every presented buffer is DECODE of it (`step_buffer`), after which the catalog looks. -/
theorem anyPresentedBufferIsJudged : Obligations.AnyPresentedBufferIsJudged := by
  intro s b rest hs
  obtain ⟨r, hr, hreports, hdrop, hdata, hok⟩ := (s.setIssue rest).rxv.exists_judged b
  have hstep : step s = .next (((s.setIssue rest).setRxv r).watch .opened) := by
    rw [step_buffer hs, presentBuffer_eq_next hr]
    rfl
  refine ⟨r, hstep, fun hq hc => ?_, hreports, hdrop, hdata, hok⟩
  rw [hstep, State.watch_idle (s := (s.setIssue rest).setRxv r) hq hc]

/-- Settles O33: a status row is DECODE of its buffer, in which the header test cannot fail. -/
theorem statusRowsAreJudged : Obligations.StatusRowsAreJudged := by
  intro addr rest s
  obtain ⟨r, hr, hreports, _⟩ := s.rxv.exists_judged ([Config.rxSync0, Config.rxSync1, addr, Config.stOk] ++ rest)
  obtain ⟨r', hr', hreports', _⟩ :=
    s.rxv.exists_judged ([Config.rxSync0, Config.rxSync1, addr, Config.stFail] ++ rest)
  refine ⟨⟨r, presentBuffer_eq_next hr, hreports, hreports.verdict_eq ▸ verdict_statusOk rfl⟩,
    r', presentBuffer_eq_next hr', hreports', ?_⟩
  rw [hreports'.verdict_eq]
  rcases verdict_statusFail (addr := addr) (rest := rest) rfl with ⟨hv, hck⟩ | ⟨hv, hck⟩
  · exact ⟨.inl hv, fun _ => hck, fun _ => hv⟩
  · exact ⟨.inr hv, fun h => absurd (hv.symm.trans h) (by decide), fun h => absurd h hck⟩

/-- Settles O34. -/
theorem wellFormedFramesAreClassified : Obligations.WellFormedFramesAreClassified :=
  fun addr status _ hp => frameDecode_inboundFrame addr status hp

end

section
/-! PROOFS. The forty bits of the packer's result (O43). -/

namespace Sys2Proof.Machine

/-- Byte 2 is the shifted facility with the id's configured bit below it (R152); no fold touches it. -/
theorem pack_o2 (f : Byte) (id : Half) :
    (pack f id).o2 = trunc8 (wide f <<< 1) ^^^ bitByte (id.getLsbD 13) := by
  simp only [pack, packWith, foldOdd, foldEven, packBase]
  split <;> split <;> rfl

/-- Byte 3 is `id[14:7]` (R152); no fold touches it. -/
theorem pack_o3 (f : Byte) (id : Half) : (pack f id).o3 = trunc8 (id >>> 7) := by
  simp only [pack, packWith, foldOdd, foldEven, packBase]
  split <;> split <;> rfl

/-- Byte 4 is the shifted id with the complement of the odd parity below it (R152, R154). -/
theorem pack_o4 (f : Byte) (id : Half) : (pack f id).o4 =
    trunc8 (id <<< 1) ^^^ bitByte (!parity (oddPattern Config.pack id (pack f id).o3)) := by
  rw [pack_o3]
  simp only [pack, packWith, foldOdd, foldEven, packBase]
  split <;> split <;> simp_all [bitByte]

theorem bitByte_getLsbD_zero (b : Bool) : (bitByte b).getLsbD 0 = b := by cases b <;> rfl

theorem bitByte_getLsbD_succ (b : Bool) (i : Nat) : (bitByte b).getLsbD (i + 1) = false := by
  cases b <;> simp [bitByte]

/-- A value that is shifted up by one has room for one more bit below (R152). -/
theorem shifted_getLsbD_zero (v : Half) (b : Bool) : (trunc8 (v <<< 1) ^^^ bitByte b).getLsbD 0 = b := by
  rw [BitVec.getLsbD_xor, bitByte_getLsbD_zero, trunc8, BitVec.getLsbD_setWidth, BitVec.getLsbD_shiftLeft]
  simp

theorem shifted_getLsbD_succ (v : Half) (b : Bool) {i : Nat} (hi : i < 7) :
    (trunc8 (v <<< 1) ^^^ bitByte b).getLsbD (i + 1) = v.getLsbD i := by
  have hbyte : i + 1 < 8 := by omega
  have hhalf : i + 1 < 16 := by omega
  rw [BitVec.getLsbD_xor, bitByte_getLsbD_succ, trunc8, BitVec.getLsbD_setWidth, BitVec.getLsbD_shiftLeft]
  simp [hbyte, hhalf]

/-- Byte 1 bit by bit: three bits are in use, the others are those of the start constant (R76). -/
theorem packStart_getLsbD (top even : Bool) (i : Nat) :
    (Config.packStart ^^^ bitByte top ^^^ (if even then 0x02 else 0x00)).getLsbD i =
      [top, even, true, false, false, false, false, false].getD i false := by
  by_cases hi : i < 8
  · have table : ∀ (top even : Bool) (i : Fin 8),
        (Config.packStart ^^^ bitByte top ^^^ (if even then 0x02 else 0x00)).getLsbD i =
          [top, even, true, false, false, false, false, false].getD i false := by decide
    exact table top even ⟨i, hi⟩
  · rw [BitVec.getLsbD_of_ge _ _ (by omega), List.getD_eq_default _ _ (by simpa using hi)]

end Sys2Proof.Machine

open Sys2Proof Sys2Proof.Machine

/-- Settles O43, byte by byte. -/
theorem packBitTable : Obligations.PackBitTable := by
  intro f id
  refine ⟨pack_o0 f id, fun i => ?_, ?_, fun i hi => ?_, fun i hi => ?_, ?_, fun i hi => ?_⟩
  · rw [pack_o1, packStart_getLsbD]
  · rw [pack_o2, shifted_getLsbD_zero]
  · rw [pack_o2, shifted_getLsbD_succ _ _ hi, wide, BitVec.getLsbD_setWidth]
    simp [show i < 16 by omega]
  · rw [pack_o3, trunc8, BitVec.getLsbD_setWidth, BitVec.getLsbD_ushiftRight]
    simp [hi, Nat.add_comm]
  · rw [pack_o4, shifted_getLsbD_zero]
  · rw [pack_o4, shifted_getLsbD_succ _ _ hi]

end

section
/-! PROOFS. The operations of CHK (O15), the laws of the checksum (O17), and its detection of a changed byte in an
inbound buffer (O35). -/

namespace Sys2Proof.Machine

/-! ## XCLR and XABS -/

theorem exec_xclr (s : State) : exec .xclr s = .next (s.setChk s.chk.clear) := rfl

theorem exec_xabs (d : Byte) (s : State) : exec (.xabs d) s = .next (s.setChk (s.chk.add d)) := rfl

/-- A byte that is absorbed twice leaves CHK as it was (R103). -/
theorem Chk.add_add_self (c : Chk) (d : Byte) : (c.add d).add d = c := by
  have hacc : c.acc ^^^ d ^^^ d = c.acc := by rw [BitVec.xor_assoc, BitVec.xor_self, BitVec.xor_zero]
  exact congrArg Chk.mk hacc

/-- Absorbing the current value clears CHK (R103). -/
theorem Chk.add_acc_self (c : Chk) : c.add c.acc = c.clear :=
  congrArg Chk.mk BitVec.xor_self

/-! ## A byte inside a sequence -/

theorem xor8_append (s t : List Byte) : xor8 (s ++ t) = xor8 s ^^^ xor8 t := by
  induction t using List.reverseRecOn with
  | nil => simp
  | append_singleton t d ih => rw [← List.append_assoc, xor8_concat, xor8_concat, ih, BitVec.xor_assoc]

theorem xor8_cons (d : Byte) (s : List Byte) : xor8 (d :: s) = d ^^^ xor8 s := by
  have hsingle : xor8 [d] = d := BitVec.zero_xor
  rw [← List.singleton_append, xor8_append, hsingle]

/-- Wherever a byte stands, it is one summand of the checksum (R104). -/
theorem xor8_insert (s : List Byte) (d : Byte) (t : List Byte) :
    xor8 (s ++ [d] ++ t) = d ^^^ xor8 (s ++ t) := by
  rw [List.append_assoc, List.singleton_append, xor8_perm List.perm_middle, xor8_cons]

/-- Only the difference of two bytes counts, wherever they stand (R104). -/
theorem xor8_insert_two (s t u : List Byte) (d e : Byte) :
    xor8 (s ++ [d] ++ t ++ [e] ++ u) = (d ^^^ e) ^^^ xor8 (s ++ t ++ u) := by
  rw [xor8_insert, List.append_assoc (s ++ [d]), xor8_insert, ← List.append_assoc s, ← BitVec.xor_assoc,
    BitVec.xor_comm e]

/-- A sequence sums to zero with its own checksum and with no other byte (R104). -/
theorem xor8_concat_eq_zero_iff (s : List Byte) (c : Byte) : xor8 (s ++ [c]) = 0x00 ↔ c = xor8 s := by
  rw [xor8_concat]
  exact BitVec.xor_eq_zero_iff.trans eq_comm

/-- A common difference in two bytes cancels (R104). -/
theorem xor_xor_xor_cancel (d e x : Byte) : (d ^^^ x) ^^^ (e ^^^ x) = d ^^^ e := by
  rw [BitVec.xor_comm e x, BitVec.xor_assoc, ← BitVec.xor_assoc x x e, BitVec.xor_self, BitVec.zero_xor]

/-- Changing one byte changes the checksum (R104). -/
theorem xor8_insert_ne {d e : Byte} (h : d ≠ e) (s t : List Byte) :
    xor8 (s ++ [d] ++ t) ≠ xor8 (s ++ [e] ++ t) := by
  rw [xor8_insert, xor8_insert]
  exact fun heq => h ((BitVec.xor_left_inj _).1 heq)

/-! ## A replaced byte -/

theorem xor8_set_ne {l : List Byte} {j : Nat} {v : Byte} (hj : j < l.length) (h : l[j]? ≠ some v) :
    xor8 (l.set j v) ≠ xor8 l := by
  have hne : v ≠ l[j] := fun hv => h (by rw [List.getElem?_eq_getElem hj, hv])
  have hold : l = l.take j ++ [l[j]] ++ l.drop (j + 1) := by
    rw [List.append_assoc, List.singleton_append, List.getElem_cons_drop, List.take_append_drop]
  have hnew : l.set j v = l.take j ++ [v] ++ l.drop (j + 1) := by
    rw [List.append_assoc, List.singleton_append, List.set_eq_take_cons_drop v hj]
  have hchanged := xor8_insert_ne hne (l.take j) (l.drop (j + 1))
  rwa [← hnew, ← hold] at hchanged

end Sys2Proof.Machine

open Sys2Proof Sys2Proof.Machine

/-- Settles O15: the two operations replace CHK alone, and absorbing a byte twice or the current value is an equation
of CHK. -/
theorem chkOperationsUpdateXAcc : Obligations.ChkOperationsUpdateXAcc := by
  refine ⟨exec_xclr, exec_xabs, fun d s => ?_, fun s => ?_⟩
  · rw [execList_pair, exec_xabs, andThen, exec_xabs]
    exact congrArg (fun c => Host.Outcome.next (s.setChk c)) (s.chk.add_add_self d)
  · rw [exec_xabs, Chk.add_acc_self]
    rfl

/-- Settles O17: each byte is one summand wherever it stands (`xor8_insert`, `xor8_insert_two`). -/
theorem checksumLaws : Obligations.ChecksumLaws := by
  refine ⟨fun _ _ h => xor8_perm h, xor8_append, xor8_concat_eq_zero_iff, fun s t => ?zero,
    fun s t u d => ?equal, fun s t _ _ h => xor8_insert_ne h s t, fun s t u d e x => ?both, fun s => (xor8 s).isLt⟩
  case zero => exact (xor8_insert s 0x00 t).trans BitVec.zero_xor
  case equal => rw [xor8_insert_two, BitVec.xor_self, BitVec.zero_xor]
  case both => rw [xor8_insert_two, xor8_insert_two, xor_xor_xor_cancel]

/-- Settles O35: the bytes from index 3 on summed to zero, so with one of them replaced they do not. -/
theorem singleByteCorruptionIsDetected : Obligations.SingleByteCorruptionIsDetected := by
  intro b i v hmin hok hi hlt hv
  obtain ⟨j, rfl⟩ := Nat.exists_eq_add_of_le hi
  have hsum : xor8 (b.drop 3) = 0x00 := not_not.1 (mt (frameDecode_bad_checksum hmin) hok)
  have hset : (b.set (3 + j) v).drop 3 = (b.drop 3).set j v := by simp [List.drop_set]
  have hchanged : xor8 ((b.drop 3).set j v) ≠ xor8 (b.drop 3) :=
    xor8_set_ne (by rw [List.length_drop]; omega) (by rwa [List.getElem?_drop])
  refine frameDecode_bad_checksum (hmin.trans_eq List.length_set.symm) ?_
  rwa [Config.rxCkFirst, hset, ← hsum]

end

section
/-! PROOFS. The builder's operations TXBEGIN (O18), TXPAY (O19) and TXCLR (O20), one equation per branch. -/

namespace Sys2Proof.Machine

theorem exec_txbegin (addr cmd n : Byte) (s : State) :
    exec (.txbegin addr cmd n) s = .next (s.setTxb (s.txb.start addr cmd n)) := rfl

theorem exec_txpay (d : Byte) (s : State) : exec (.txpay d) s = .next (s.setTxb (s.txb.pay d)) := rfl

theorem exec_txclr (s : State) : exec .txclr s = .next (s.setTxb s.txb.clear) := rfl

/-! ## TXBEGIN -/

/-- Outside a frame the header is emitted, and an empty frame is complete with its checksum (R111). -/
theorem Txb.start_of_idle {t : Txb} (addr cmd n : Byte) (hb : t.busy = false) : t.start addr cmd n =
    { busy := decide (n ≠ 0), rem := n, acc := addr ^^^ cmd ^^^ n, err := t.err
      out := t.out ++ [0xAB, 0xBA, addr, cmd, n] ++ (if n = 0 then [addr ^^^ cmd ^^^ n] else []) } := by
  rcases t.start_cases addr cmd n with ⟨hb', _⟩ | ⟨_, rfl, h⟩ | ⟨_, hn, h⟩
  · simp [hb] at hb'
  · rw [h, if_pos rfl, List.append_assoc]
    rfl
  · rw [h, if_neg hn, List.append_nil, decide_eq_true hn]
    rfl

theorem Txb.start_of_busy {t : Txb} (addr cmd n : Byte) (hb : t.busy = true) :
    t.start addr cmd n = t.refuseErr := by
  rcases t.start_cases addr cmd n with ⟨_, h⟩ | ⟨hb', _⟩ | ⟨hb', _⟩
  · exact h
  all_goals simp [hb] at hb'

/-! ## TXPAY -/

/-- The last announced byte is emitted with the checksum behind it (R112). -/
theorem Txb.pay_of_last {t : Txb} (d : Byte) (hb : t.busy = true) (hrem : t.rem = 1) :
    t.pay d = (t.emit [d, t.acc ^^^ d]).place false 0 (t.acc ^^^ d) := by
  rcases t.pay_cases d with ⟨hb', _⟩ | ⟨_, _, h⟩ | ⟨_, hne, _⟩
  · simp [hb] at hb'
  · exact h
  · exact absurd hrem hne

theorem Txb.pay_of_more {t : Txb} (d : Byte) (hb : t.busy = true) (hrem : t.rem ≠ 1) :
    t.pay d = (t.emit [d]).place true (t.rem - 1) (t.acc ^^^ d) := by
  rcases t.pay_cases d with ⟨hb', _⟩ | ⟨_, hone, _⟩ | ⟨_, _, h⟩
  · simp [hb] at hb'
  · exact absurd hone hrem
  · exact h

theorem Txb.pay_of_idle {t : Txb} (d : Byte) (hb : t.busy = false) : t.pay d = t.refuseErr := by
  rcases t.pay_cases d with ⟨_, h⟩ | ⟨hb', _⟩ | ⟨hb', _⟩
  · exact h
  all_goals simp [hb] at hb'

end Sys2Proof.Machine

open Sys2Proof Sys2Proof.Machine

/-- Settles O18. -/
theorem txbeginStartsOrIsRefused : Obligations.TxbeginStartsOrIsRefused := by
  refine ⟨fun addr cmd n s hb => ?idle, fun addr cmd n s hb => ?busy⟩
  case idle => rw [exec_txbegin, Txb.start_of_idle addr cmd n hb]; rfl
  case busy => rw [exec_txbegin, Txb.start_of_busy addr cmd n hb]; rfl

/-- Settles O19: in a frame that stays open, `Txb.place` writes the TX_BUSY that already stood. -/
theorem txpaySuppliesOrIsRefused : Obligations.TxpaySuppliesOrIsRefused := by
  refine ⟨fun d s hb hrem => ?last, fun d s hb hrem => ?more, fun d s hb => ?idle⟩
  case last => rw [exec_txpay, Txb.pay_of_last d hb hrem]; rfl
  case more => rw [exec_txpay, Txb.pay_of_more d hb hrem, ← hb]; rfl
  case idle => rw [exec_txpay, Txb.pay_of_idle d hb]; rfl

/-- Settles O20: TXCLR leaves the builder idle, where TXBEGIN emits its header (`Txb.start_of_idle`). -/
theorem txclrAbandonsFrame : Obligations.TxclrAbandonsFrame := by
  refine ⟨exec_txclr, fun s addr cmd n => ?_⟩
  have hstart := Txb.start_of_idle addr cmd n s.txb.clear_busy
  refine ⟨s.setTxb (s.txb.clear.start addr cmd n), if n = 0 then [addr ^^^ cmd ^^^ n] else [], ?_, ?_, ?_⟩
  · rw [execList_pair, exec_txclr, andThen, exec_txbegin, State.setTxb_txb, State.setTxb_setTxb]
  · rw [State.setTxb_txb, hstart, Txb.clear_err]
  · rw [State.setTxb_txb, hstart, Txb.clear_out]

end

section
/-! PROOFS. Operations of other units between those of ENCODE (O22), and a frame of the builder under the validator's
tests (O24). -/

namespace Sys2Proof.Machine

/-! ## What a list of operations makes of the builder -/

/-- What belongs to another part of the block leaves the builder and the catalog's two fields (R59). -/
theorem UnitAction.builder_eq_of_other {p : Part} {a : State → Host.Outcome State Fault Refusal} {s t : State}
    (ha : UnitAction p a) (htxb : p ≠ .txb) (hall : p ≠ .all) (h : a s = .next t) : t.builder = s.builder := by
  cases ha with
  | nothing | chk | cnp | flag => cases h; rfl
  | rxv f => obtain ⟨_, _, rfl⟩ := State.withRxv_eq_next.1 h; rfl
  | txb => exact absurd rfl htxb
  | all => exact absurd rfl hall

/-- What belongs to TXB, and RESET, make of the builder and the catalog's two fields what these alone tell (R59). -/
theorem UnitAction.builder_eq_of_own {p : Part} {a : State → Host.Outcome State Fault Refusal} {s s' t : State}
    (ha : UnitAction p a) (hp : p = .txb ∨ p = .all) (hs : s'.builder = s.builder) (h : a s = .next t) :
    ∃ t', a s' = .next t' ∧ t'.builder = t.builder := by
  cases ha with
  | txb f => cases h; exact ⟨_, rfl, congrArg f hs⟩
  | all =>
    cases h
    exact ⟨_, rfl, congrArg (fun b : Txb × Request × CallStatus => (Txb.reset, b.2)) hs⟩
  | nothing | chk | rxv | cnp | flag => simp at hp

theorem touchesTxb_iff (i : Instr) : touchesTxb i = true ↔ part i = .txb ∨ part i = .all := by
  simp [touchesTxb]

/-- Of a list of operations only those on TXB, and RESET, count for the builder (R59, R114). -/
theorem execList_filter_touchesTxb {ops : List Instr} {s t : State} (h : execList ops s = .next t) :
    ∃ t', execList (ops.filter touchesTxb) s = .next t' ∧ t'.builder = t.builder := by
  refine execList_filter (fun i s t hi h => ?_) (fun i s s' t hi hs h => ?_) rfl h
  · have hother : ¬ (part i = .txb ∨ part i = .all) := by rw [← touchesTxb_iff, hi]; nofun
    exact (exec_unitAction i).builder_eq_of_other (hother ∘ .inl) (hother ∘ .inr) h
  · exact (exec_unitAction i).builder_eq_of_own ((touchesTxb_iff i).1 hi) hs h

/-! ## A list of operations answers a next state -/

theorem ExecEffect.rxv_inv {s t : State} {i : Instr} (h : ExecEffect s i t) (hi : s.rxv.Inv) : t.rxv.Inv := by
  rcases h.rxv_cases with h | h | ⟨_, h⟩
  · exact h ▸ hi
  · exact h.inv hi
  · exact h ▸ Rxv.reset_inv

/-- Under the validator's invariant no operation of a list faults, since each keeps it (log 9). -/
theorem exists_execList (ops : List Instr) {s : State} (hi : s.rxv.Inv) : ∃ t, execList ops s = .next t := by
  induction ops generalizing s with
  | nil => exact ⟨s, rfl⟩
  | cons i ops ih =>
    obtain ⟨u, hu⟩ := exists_exec hi i
    obtain ⟨t, ht⟩ := ih ((exec_effect hu).rxv_inv hi)
    exact ⟨t, by rw [execList, hu]; exact ht⟩

/-! ## A frame of the builder as an inbound buffer -/

theorem frameEncode_getLast? (addr cmd : Byte) (p : List Byte) :
    (frameEncode addr cmd p).getLast? = some (xor8 (frameCovered addr cmd p)) := by
  rw [frameEncode, List.getLast?_concat]

/-- A checksum that sums one byte more than it is joined with leaves that byte (R101). -/
theorem xor8_concat_xor8_cons (d : Byte) (l : List Byte) : xor8 (l ++ [xor8 (d :: l)]) = d := by
  rw [xor8_concat, xor8_cons, BitVec.xor_comm d, ← BitVec.xor_assoc, BitVec.xor_self, BitVec.zero_xor]

/-- The builder's checksum covers the address and the validator's test does not, so the address is what the bytes
from index 3 on sum to (R74, R119). -/
theorem xor8_drop_frameEncode (addr cmd : Byte) (p : List Byte) :
    xor8 ((frameEncode addr cmd p).drop Config.rxCkFirst) = addr :=
  xor8_concat_xor8_cons addr (cmd :: BitVec.ofNat 8 p.length :: p)

theorem frameDecode_frameEncode (addr cmd : Byte) (p : List Byte) :
    frameDecode (frameEncode addr cmd p) = if addr = 0x00 then .invalidHeader else .checksumMismatch := by
  have hmin : Config.rxMin ≤ (frameEncode addr cmd p).length := by
    rw [length_frameEncode, Config.rxMin]
    omega
  have hsum := xor8_drop_frameEncode addr cmd p
  have hsync : (frameEncode addr cmd p).getD 0 0 ≠ Config.rxSync0 := show Config.txSync0 ≠ Config.rxSync0 by decide
  split
  next haddr => exact frameDecode_bad_header hmin (hsum.trans haddr) (.inl hsync)
  next haddr => exact frameDecode_bad_checksum hmin (hsum.trans_ne haddr)

end Sys2Proof.Machine

open Sys2Proof Sys2Proof.Machine

/-- Settles O22: what stands between makes no difference to the builder (`execList_filter_touchesTxb`), and what is
left is ENCODE on an idle builder (O21). -/
theorem interleavedEncodeBuildsFrame : Obligations.InterleavedEncodeBuildsFrame := by
  intro addr cmd p ops s hp hb hops
  refine ⟨fun t h => ?_, exists_execList ops⟩
  obtain ⟨t', ht', hbuilder⟩ := execList_filter_touchesTxb h
  rw [hops, encodeSequenceBuildsFrame addr cmd p s hp hb] at ht'
  cases ht'
  have htxb : (s.setTxb _).txb = t.txb := congrArg Prod.fst hbuilder
  rw [← htxb]
  exact ⟨rfl, frameEncode_getLast? addr cmd p⟩

/-- Settles O24: the validator reports `decode` of the frame (`Rxv.exists_judged`). -/
theorem builderFramesAreNeverAccepted : Obligations.BuilderFramesAreNeverAccepted := by
  intro addr cmd p s _
  have hdecode := frameDecode_frameEncode addr cmd p
  obtain ⟨r, hr, hreports, _⟩ := s.rxv.exists_judged (frameEncode addr cmd p)
  refine ⟨hdecode, s.setRxv r, by rw [execList_decodeOps, hr]; rfl, ?_⟩
  rw [State.setRxv_rxv, hreports.verdict_eq, hdecode, apply_ite DecodeOutcome.verdict]
  rfl

end

section
/-! PROOFS. The operations of the validator, one at a time: RXCLR (O25), RXB (O26), RXEND (O27), RXRD (O28) and
PAYRD (O29), each with the equations of its branches. -/

namespace Sys2Proof.Machine

theorem exec_rxclr (s : State) : exec .rxclr s = .next (s.setRxv s.rxv.clear) := rfl

theorem exec_rxb (d : Byte) (s : State) : exec (.rxb d) s = .next (s.setRxv (s.rxv.present d)) := rfl

theorem exec_rxend (s : State) : exec .rxend s = s.withRxv s.rxv.close := rfl

theorem exec_rxrd (k : BufAddr) (s : State) : exec (.rxrd k) s = s.withRxv (s.rxv.readRaw k) := rfl

theorem exec_payrd (i : Byte) (s : State) : exec (.payrd i) s = s.withRxv (s.rxv.readPayload i) := rfl

theorem State.withRxv_ok {s : State} {x : Except Fault Rxv} {r : Rxv} (h : x = .ok r) :
    s.withRxv x = .next (s.setRxv r) := by
  rw [h, State.withRxv]

/-! ## RXB -/

/-- RXB does not judge the buffer (R126). -/
theorem Rxv.present_verdict (r : Rxv) (d : Byte) :
    (r.present d).verdict = r.verdict ∧ (r.present d).plen = r.plen := by
  rcases r.present_cases d with ⟨_, h⟩ | ⟨_, _, h⟩ | ⟨_, _, _, h⟩ | ⟨_, _, h⟩
  all_goals rw [h]; exact ⟨rfl, rfl⟩

/-- An open buffer with room gets the byte at RX_CNT, which advances (R126). -/
theorem Rxv.present_of_room {r : Rxv} (d : Byte) (hd : r.done = false) (hc : r.cnt.toNat < Config.rxbufDepth) :
    (r.present d).cnt = r.cnt + 1 ∧ (r.present d).ovf = r.ovf ∧
      (r.present d).buf = r.buf.write r.cnt.toNat d := by
  rcases r.present_cases d with ⟨hd', _⟩ | ⟨_, _, h⟩ | ⟨_, _, _, h⟩ | ⟨_, hfull, _⟩
  · simp [hd] at hd'
  · rw [h]; exact ⟨rfl, rfl, rfl⟩
  · rw [h]; exact ⟨rfl, rfl, rfl⟩
  · exact absurd hc (not_lt.2 hfull)

/-- A full open buffer keeps what it holds and notes the overflow (R126, R203). -/
theorem Rxv.present_of_full {r : Rxv} (d : Byte) (hd : r.done = false) (hc : Config.rxbufDepth ≤ r.cnt.toNat) :
    (r.present d).cnt = r.cnt ∧ (r.present d).ovf = true ∧ (r.present d).buf = r.buf := by
  rcases r.present_cases d with ⟨hd', _⟩ | ⟨_, hlow, _⟩ | ⟨_, _, hroom, _⟩ | ⟨_, _, h⟩
  · simp [hd] at hd'
  · exact absurd (hlow.trans (show Config.rxCkFirst < Config.rxbufDepth by decide)) (not_lt.2 hc)
  · exact absurd hroom (not_lt.2 hc)
  · rw [h]; exact ⟨rfl, rfl, rfl⟩

/-- On an open buffer the bytes from index 3 on are summed, also those past the last location (R22, R126). -/
theorem Rxv.present_acc {r : Rxv} (d : Byte) (hd : r.done = false) :
    (r.present d).acc = if Config.rxCkFirst ≤ r.cnt.toNat then r.acc ^^^ d else r.acc := by
  rcases r.present_cases d with ⟨hd', _⟩ | ⟨_, hlow, h⟩ | ⟨_, hsum, _, h⟩ | ⟨_, hfull, h⟩
  · simp [hd] at hd'
  · rw [h, if_neg (not_le.2 hlow)]
  · rw [h, if_pos hsum]
  · rw [h, if_pos ((show Config.rxCkFirst ≤ Config.rxbufDepth by decide).trans hfull)]

/-! ## RXEND -/

/-- What the tests of R131 read at `k`; a filler where nothing is written, which no test reaches under the invariant. -/
def Memory.byteAt (m : Memory) (k : Nat) : Byte := (m.read k).getD 0x00

theorem Memory.byteAt_of_read {m : Memory} {k : Nat} {v : Byte} (h : m.read k = some v) : m.byteAt k = v := by
  rw [Memory.byteAt, h, Option.getD_some]

/-- RXEND's verdict is the first of R131's chain that applies (R197). -/
theorem verdictOf_eq_chain {cnt : BufAddr} {acc : Byte} {buf : Memory} {v : Verdict}
    (h : verdictOf cnt acc buf = .ok v) :
    v = if cnt.toNat < Config.rxMin then .vMalformed
      else if acc ≠ 0x00 then .vChecksum
      else if buf.byteAt 0 ≠ Config.rxSync0 ∨ buf.byteAt 1 ≠ Config.rxSync1 then .vHeader
      else if buf.byteAt 3 = Config.stOk then
        if (buf.byteAt 4).toNat + Config.rxPayFirst > cnt.toNat then .vMalformed else .vOk
      else if buf.byteAt 3 = Config.stFail then .vOpFailed
      else .vUnexpected := by
  rcases verdictOf_cases h with ⟨rfl, hshort⟩ | ⟨hmin, hlong⟩
  · exact (if_pos hshort).symm
  rw [if_neg (not_lt.2 hmin)]
  rcases hlong with ⟨rfl, hacc⟩ | ⟨hacc, b0, b1, h0, h1, htests⟩
  · exact (if_pos hacc).symm
  rw [if_neg (not_not.2 hacc), Memory.byteAt_of_read h0, Memory.byteAt_of_read h1]
  rcases htests with ⟨rfl, hsync⟩ | ⟨hs0, hs1, status, h3, hstatus⟩
  · exact (if_pos hsync).symm
  rw [if_neg (not_or.2 ⟨not_not.2 hs0, not_not.2 hs1⟩), Memory.byteAt_of_read h3]
  rcases hstatus with ⟨hok, len, h4, hfits⟩ | ⟨rfl, hfail⟩ | ⟨rfl, hnok, hnfail⟩
  · rw [if_pos hok, Memory.byteAt_of_read h4, Nat.add_comm]
    rcases hfits with ⟨rfl, hover⟩ | ⟨rfl, hfit⟩
    · exact (if_pos hover).symm
    · exact (if_neg (not_lt.2 hfit)).symm
  · rw [hfail]; rfl
  · exact ((if_neg hnok).trans (if_neg hnfail)).symm

/-- RXEND of an open buffer raises the verdict, with the length byte as RX_PLEN when it is V_OK (R127). -/
theorem Rxv.close_of_open {r r' : Rxv} (hd : r.done = false) (h : r.close = .ok r') :
    ∃ v, verdictOf r.cnt r.acc r.buf = .ok v ∧
      r' = r.raiseVerdict v (if v = .vOk then r.buf.byteAt 4 else 0x00) := by
  rcases Rxv.close_cases h with ⟨hd', _⟩ | ⟨_, v, len, hv, rfl, hlen⟩
  · simp [hd] at hd'
  refine ⟨v, hv, ?_⟩
  rcases hlen with ⟨hok, h4⟩ | ⟨hne, rfl⟩
  · rw [if_pos hok, Memory.byteAt_of_read h4]
  · rw [if_neg hne]

/-! ## RXRD and PAYRD -/

theorem Rxv.readRaw_allowed {r : Rxv} {k : BufAddr} {v : Byte} (hd : r.done = true) (hk : k.toNat < r.cnt.toNat)
    (hv : r.buf.read k.toNat = some v) : r.readRaw k = .ok (r.latch v) := by
  rw [Rxv.readRaw, if_pos ⟨hd, BitVec.lt_def.2 hk⟩, Memory.fetch_of_read hv]
  rfl

theorem Rxv.readRaw_refused {r : Rxv} {k : BufAddr} (h : r.done = false ∨ r.cnt.toNat ≤ k.toNat) :
    r.readRaw k = .ok r.refuseRead := by
  refine if_neg fun ⟨hd, hk⟩ => ?_
  rcases h with hopen | hge
  · simp [hopen] at hd
  · exact absurd (BitVec.lt_def.1 hk) (not_lt.2 hge)

theorem Rxv.readPayload_allowed {r : Rxv} {i v : Byte} (hok : r.verdict = .vOk) (hi : i.toNat < r.plen.toNat)
    (hv : r.buf.read (Config.rxPayFirst + i.toNat) = some v) : r.readPayload i = .ok (r.latch v) := by
  rw [Rxv.readPayload, if_pos ⟨hok, (zext9_lt_iff i r.plen).2 hi⟩, payAddr_toNat, Memory.fetch_of_read hv]
  rfl

theorem Rxv.readPayload_refused {r : Rxv} {i : Byte} (h : r.verdict ≠ .vOk ∨ r.plen.toNat ≤ i.toNat) :
    r.readPayload i = .ok r.refuseRead := by
  refine if_neg fun ⟨hok, hi⟩ => ?_
  rcases h with hne | hge
  · exact hne hok
  · exact absurd ((zext9_lt_iff i r.plen).1 hi) (not_lt.2 hge)

end Sys2Proof.Machine

open Sys2Proof Sys2Proof.Machine

/-- Settles O25. -/
theorem rxclrOpensEmptyBuffer : Obligations.RxclrOpensEmptyBuffer :=
  ⟨fun s => ⟨s.rxv.clear, exec_rxclr s, rfl, rfl, rfl, rfl, rfl, rfl, rfl, fun _ => rfl, rfl, rfl⟩, rfl⟩

/-- Settles O26: with room the byte is written at RX_CNT, on a full buffer it is only summed. -/
theorem rxbStoresSumsOrDrops : Obligations.RxbStoresSumsOrDrops := by
  refine ⟨fun d s hd => ?_, fun d s hd => by rw [exec_rxb, Rxv.present_of_closed d hd]; rfl⟩
  obtain ⟨hverdict, hplen⟩ := s.rxv.present_verdict d
  obtain ⟨hdata, hok⟩ := s.rxv.present_latch d
  have hacc := Rxv.present_acc d hd
  refine ⟨s.rxv.present d, exec_rxb d s, fun hroom => ?_, fun hfull => ?_, fun h3 => hacc.trans (if_pos h3),
    fun h3 => hacc.trans (if_neg (not_le.2 h3)), (s.rxv.present_done d).trans hd, hverdict, hplen, ?_, hdata, hok⟩
  · obtain ⟨hcnt, hovf, hbuf⟩ := Rxv.present_of_room d hd hroom
    refine ⟨by rw [hcnt, cnt_succ_toNat hroom], hovf, by rw [hbuf, Memory.read_write_same], fun k hk => ?_⟩
    rw [hbuf, Memory.read_write_other _ d hk]
  · obtain ⟨hcnt, hovf, hbuf⟩ := Rxv.present_of_full d hd hfull
    exact ⟨hcnt, hovf, fun k => by rw [hbuf]⟩
  · rw [Rxv.present_drop, hd, Bool.or_false]

/-- Settles O27: under the invariant RXEND answers (`Rxv.exists_close`), so every location it read was written. -/
theorem rxendFormsVerdict : Obligations.RxendFormsVerdict := by
  refine ⟨fun s hi hd => ?_, fun s hd => ?_⟩
  · obtain ⟨r, hr⟩ := Rxv.exists_close hi
    obtain ⟨v, hv, rfl⟩ := Rxv.close_of_open hd hr
    exact ⟨v, verdictOf_eq_chain hv, (exec_rxend s).trans (State.withRxv_ok hr)⟩
  · exact (exec_rxend s).trans (State.withRxv_ok (r := s.rxv) (if_pos hd))

/-- Settles O28: below RX_CNT every location is written. -/
theorem rxrdReadsClosedBuffer : Obligations.RxrdReadsClosedBuffer := by
  refine ⟨fun k s hi hd hk => ?_, fun k s h => (exec_rxrd k s).trans (State.withRxv_ok (Rxv.readRaw_refused h))⟩
  obtain ⟨v, hv⟩ := Memory.exists_read_of_lt hi.listed hk
  exact ⟨v, hv, (exec_rxrd k s).trans (State.withRxv_ok (Rxv.readRaw_allowed hd hk hv))⟩

/-- Settles O29: a buffer of V_OK holds its whole payload below RX_CNT (`Rxv.Inv.ok_facts`). -/
theorem payrdReadsPayload : Obligations.PayrdReadsPayload := by
  refine ⟨fun i s hi hok hlt => ?_, fun i s h => (exec_payrd i s).trans (State.withRxv_ok (Rxv.readPayload_refused h))⟩
  obtain ⟨-, -, -, -, -, -, hfit⟩ := hi.ok_facts hok
  rw [Config.rxPayFirst] at hfit
  have hlen := s.rxv.plen.isLt
  obtain ⟨v, hv⟩ := Memory.exists_read_of_lt hi.listed (show 5 + i.toNat < s.rxv.cnt.toNat by omega)
  exact ⟨by omega, by omega, v, hv,
    (exec_payrd i s).trans (State.withRxv_ok (Rxv.readPayload_allowed hok hlt hv))⟩

end

section
/-! PROOFS. The function `decode` on buffers: the address byte (O36), the shortest buffers (O37) and the length byte
(O38). -/

namespace Sys2Proof.Machine

/-! ## The tests of `decode` -/

/-- `decode` with its checksum test as the sum of the bytes from index 3 on (R101, R125). -/
theorem frameDecode_of_size {b : List Byte} (hmin : Config.rxMin ≤ b.length) :
    frameDecode b =
      if xor8 (b.drop Config.rxCkFirst) ≠ 0x00 then .checksumMismatch
      else if b.getD 0 0 ≠ Config.rxSync0 ∨ b.getD 1 0 ≠ Config.rxSync1 then .invalidHeader
      else if b.getD 3 0 = Config.stOk then
        if Config.rxPayFirst + (b.getD 4 0).toNat > b.length then .malformedFrame
        else .success (slice b Config.rxPayFirst (Config.rxPayFirst + (b.getD 4 0).toNat))
      else if b.getD 3 0 = Config.stFail then .operationFailed b
      else .unexpectedStatus := by
  split
  next hck => exact frameDecode_bad_checksum hmin hck
  next hck =>
    split
    next hsync => exact frameDecode_bad_header hmin (not_not.1 hck) hsync
    next hsync =>
      obtain ⟨h0, h1⟩ := not_or.1 hsync
      exact frameDecode_status hmin (not_not.1 hck) (not_not.1 h0) (not_not.1 h1)

/-! ## Buffers that differ at index 2 only -/

/-- The outcome with `raw` for the raw response, where it carries one (R194). -/
def DecodeOutcome.withRaw (raw : List Byte) : DecodeOutcome → DecodeOutcome
  | .operationFailed _ => .operationFailed raw
  | o => o

theorem DecodeOutcome.verdict_withRaw (o : DecodeOutcome) (raw : List Byte) : (o.withRaw raw).verdict = o.verdict := by
  cases o <;> rfl

theorem DecodeOutcome.withRaw_eq_success_iff {o : DecodeOutcome} {raw p : List Byte} :
    o.withRaw raw = .success p ↔ o = .success p := by
  cases o <;> simp [DecodeOutcome.withRaw]

theorem getD_set_ne {b : List Byte} {i j : Nat} (h : i ≠ j) (v : Byte) : (b.set i v).getD j 0 = b.getD j 0 := by
  rw [List.getD_eq_getElem?_getD, List.getElem?_set_ne h, List.getD_eq_getElem?_getD]

/-- A byte before a slice is no part of it. -/
theorem slice_set_of_lt {b : List Byte} {k i : Nat} (h : k < i) (v : Byte) (j : Nat) :
    slice (b.set k v) i j = slice b i j := by
  rw [slice, List.take_set, List.drop_set_of_lt h, slice]

/-- No test of `decode` reads index 2; only the raw response of a failure carries that byte (R125, R138). -/
theorem frameDecode_set_address (b : List Byte) (v : Byte) :
    frameDecode (b.set 2 v) = (frameDecode b).withRaw (b.set 2 v) := by
  have hlen : (b.set 2 v).length = b.length := List.length_set
  by_cases hmin : b.length < Config.rxMin
  · rw [frameDecode_short hmin, frameDecode_short (hlen ▸ hmin)]
    rfl
  have hcovered : (b.set 2 v).drop Config.rxCkFirst = b.drop Config.rxCkFirst := List.drop_set_of_lt (by decide)
  have hpayload (j : Nat) : slice (b.set 2 v) Config.rxPayFirst j = slice b Config.rxPayFirst j :=
    slice_set_of_lt (by decide) v j
  rw [frameDecode_of_size (hlen ▸ not_lt.1 hmin), frameDecode_of_size (not_lt.1 hmin)]
  simp only [hlen, hcovered, hpayload, getD_set_ne (show 2 ≠ 0 by decide), getD_set_ne (show 2 ≠ 1 by decide),
    getD_set_ne (show 2 ≠ 3 by decide), getD_set_ne (show 2 ≠ 4 by decide), apply_ite (DecodeOutcome.withRaw _)]
  rfl

/-- With no payload length there is no payload (R28). -/
theorem Rxv.payload_of_plen_zero {r : Rxv} (h : r.plen = 0x00) : r.payload = [] := by
  rw [Rxv.payload, h]
  rfl

/-- Two validators that report buffers of the same verdict and payload show the same (R132). -/
theorem Rxv.Reports.agree {r r' : Rxv} {b b' : List Byte} (h : r.Reports b) (h' : r'.Reports b')
    (hverdict : (frameDecode b').verdict = (frameDecode b).verdict)
    (hpayload : ∀ p, frameDecode b' = .success p ↔ frameDecode b = .success p) :
    r'.verdict = r.verdict ∧ r'.plen = r.plen ∧ r'.payload = r.payload := by
  have heq : r'.verdict = r.verdict := h'.verdict_eq.trans (hverdict.trans h.verdict_eq.symm)
  refine ⟨heq, ?_⟩
  by_cases hok : r.verdict = .vOk
  · obtain ⟨p, hp⟩ := h.verdict_eq_ok_iff.1 hok
    obtain ⟨hread, hplen⟩ := h.payload_eq p hp
    obtain ⟨hread', hplen'⟩ := h'.payload_eq p ((hpayload p).2 hp)
    exact ⟨BitVec.eq_of_toNat_eq (hplen'.trans hplen.symm), hread'.trans hread.symm⟩
  · have hzero := h.failure_len hok
    have hzero' := h'.failure_len (heq ▸ hok)
    rw [hzero, hzero', Rxv.payload_of_plen_zero hzero, Rxv.payload_of_plen_zero hzero']
    exact ⟨rfl, rfl⟩

/-! ## Short buffers -/

/-- Four bytes: the status byte is its own checksum, so only 0x00 passes, and it is no known status (R136). -/
theorem frameDecode_four (b0 b1 b2 b3 : Byte) : frameDecode [b0, b1, b2, b3] =
    if b3 ≠ 0x00 then .checksumMismatch
    else if b0 ≠ Config.rxSync0 ∨ b1 ≠ Config.rxSync1 then .invalidHeader
    else .unexpectedStatus := by
  have hsum : xor8 ([b0, b1, b2, b3].drop Config.rxCkFirst) = b3 := BitVec.zero_xor
  rw [frameDecode_of_size (by simp [Config.rxMin]), hsum]
  by_cases hzero : b3 = 0x00
  · subst hzero; rfl
  · rw [if_pos hzero, if_pos hzero]

/-- Five bytes: the last is the checksum of the status byte alone, so a status of 0x81 has the length byte 0x81, which
is too long (R136). -/
theorem frameDecode_five (b0 b1 b2 b3 b4 : Byte) : frameDecode [b0, b1, b2, b3, b4] =
    if b4 ≠ b3 then .checksumMismatch
    else if b0 ≠ Config.rxSync0 ∨ b1 ≠ Config.rxSync1 then .invalidHeader
    else if b3 = Config.stOk then .malformedFrame
    else if b3 = Config.stFail then .operationFailed [b0, b1, b2, b3, b4] else .unexpectedStatus := by
  have hsum : xor8 ([b0, b1, b2, b3, b4].drop Config.rxCkFirst) = 0x00 ↔ b4 = b3 := by
    refine (xor8_concat_eq_zero_iff [b3] b4).trans ?_
    rw [xor8_cons, xor8_nil]
    exact iff_of_eq (congrArg (b4 = ·) BitVec.xor_zero)
  rw [frameDecode_of_size (by simp [Config.rxMin])]
  by_cases hck : b4 = b3
  · subst hck
    rw [if_neg (not_not.2 (hsum.2 rfl)), if_neg (not_not.2 rfl)]
    by_cases hok : b4 = Config.stOk
    · subst hok; rfl
    · congr 1
      exact (if_neg hok).trans (if_neg hok).symm
  · rw [if_pos (mt hsum.1 hck), if_pos hck]

/-- A success has the six bytes of the smallest frame, since the validator that reports it counts them (R47, R136). -/
theorem frameFixed_le_of_success {b p : List Byte} (h : frameDecode b = .success p) :
    Config.frameFixed ≤ b.length := by
  obtain ⟨r, hr⟩ := Rxv.exists_judge Rxv.reset b
  have hreports := Rxv.judge_reports hr
  obtain ⟨hsize, _⟩ := (Rxv.judge_inv hr).ok_facts (hreports.verdict_eq_ok_iff.2 ⟨p, h⟩)
  have hcnt := hreports.holds.cnt_eq
  omega

/-! ## The length byte -/

/-- A buffer of status 0x81 that its last byte closes, with any length byte before the bytes `l` (R71, R137). -/
def okBuffer (addr len : Byte) (l : List Byte) : List Byte :=
  [Config.rxSync0, Config.rxSync1, addr, Config.stOk, len] ++ l ++ [xor8 ([Config.stOk, len] ++ l)]

theorem okBuffer_eq_append (addr len : Byte) (l : List Byte) : okBuffer addr len l =
    [Config.rxSync0, Config.rxSync1, addr, Config.stOk] ++ (len :: l ++ [xor8 ([Config.stOk, len] ++ l)]) := rfl

theorem length_okBuffer (addr len : Byte) (l : List Byte) : (okBuffer addr len l).length = 6 + l.length := by
  simp only [okBuffer, List.length_append, List.length_cons, List.length_nil]
  omega

theorem slice_okBuffer (addr len : Byte) (l : List Byte) (n : Nat) :
    slice (okBuffer addr len l) Config.rxPayFirst (Config.rxPayFirst + n) =
      (l ++ [xor8 ([Config.stOk, len] ++ l)]).take n := by
  rw [slice, List.drop_take, Nat.add_sub_cancel_left]
  rfl

/-- The length byte bounds the slice, which may take the checksum byte in, and that is all it does (R125, R137). -/
theorem frameDecode_okBuffer (addr len : Byte) (l : List Byte) : frameDecode (okBuffer addr len l) =
    if 6 + l.length < 5 + len.toNat then .malformedFrame
    else .success ((l ++ [xor8 ([Config.stOk, len] ++ l)]).take len.toNat) := by
  have hck : xor8 (Config.stOk :: (len :: l ++ [xor8 ([Config.stOk, len] ++ l)])) = 0x00 :=
    (xor8_concat_eq_zero_iff ([Config.stOk, len] ++ l) _).2 rfl
  have hlenbyte : (okBuffer addr len l).getD 4 0 = len := rfl
  rw [frameDecode_synced (okBuffer_eq_append addr len l), if_pos hck, if_pos rfl, hlenbyte, length_okBuffer,
    slice_okBuffer]
  rfl

end Sys2Proof.Machine

open Sys2Proof Sys2Proof.Machine

/-- Settles O36: `decode` gives the same but for the raw response (`frameDecode_set_address`), and the validator
reports `decode`. -/
theorem addressByteIsNotTested : Obligations.AddressByteIsNotTested := by
  intro b v hlen
  have hdecode := frameDecode_set_address b v
  have hverdict : (frameDecode (b.set 2 v)).verdict = (frameDecode b).verdict := by
    rw [hdecode, DecodeOutcome.verdict_withRaw]
  have hsuccess (p : List Byte) : frameDecode (b.set 2 v) = .success p ↔ frameDecode b = .success p := by
    rw [hdecode, DecodeOutcome.withRaw_eq_success_iff]
  refine ⟨hverdict, hsuccess, fun s s' => ?_⟩
  obtain ⟨r, hr, hreports, _⟩ := s.rxv.exists_judged b
  obtain ⟨r', hr', hreports', _⟩ := s'.rxv.exists_judged (b.set 2 v)
  obtain ⟨hv, hplen, hpayload⟩ := hreports.agree hreports' hverdict hsuccess
  have haddr : r'.rxAddr = some v := by
    rw [Rxv.rxAddr, hreports'.holds.view_eq (by decide), List.getElem?_set_self hlen]
  exact ⟨s.setRxv r, s'.setRxv r', by rw [execList_decodeOps, State.withRxv_ok hr],
    by rw [execList_decodeOps, State.withRxv_ok hr'], hv, hplen, hpayload, haddr⟩

/-- Settles O37. -/
theorem shortBufferOutcomes : Obligations.ShortBufferOutcomes :=
  ⟨frameDecode_four, frameDecode_five, fun _ _ => frameFixed_le_of_success⟩

/-- Settles O38: three lengths of the slice in `frameDecode_okBuffer`, below, at and above the bytes there are. -/
theorem lengthByteIsOnlyABound : Obligations.LengthByteIsOnlyABound := by
  refine ⟨fun addr p extra hp => ?_, fun addr q hq => ?_, fun addr len q hlong => ?_⟩
  · have hlen : (BitVec.ofNat 8 p.length).toNat = p.length := toNat_lengthByte hp
    have h : frameDecode (okBuffer addr (BitVec.ofNat 8 p.length) (p ++ extra)) = .success p := by
      rw [frameDecode_okBuffer, hlen, if_neg (by simp; omega), List.append_assoc p extra, List.take_left]
    rw [okBuffer, ← List.append_assoc, ← List.append_assoc] at h
    exact h
  · have hlen : (BitVec.ofNat 8 (q.length + 1)).toNat = q.length + 1 :=
      Nat.mod_eq_of_lt (show q.length + 1 < 2 ^ 8 by omega)
    have h := frameDecode_okBuffer addr (BitVec.ofNat 8 (q.length + 1)) q
    rwa [hlen, if_neg (by omega), List.take_of_length_le (by simp)] at h
  · exact (frameDecode_okBuffer addr len q).trans (if_pos hlong)

end

section
/-! PROOFS. Operations of other units and reads between those of DECODE (O32), and RXRD of a judged buffer (O39). -/

namespace Sys2Proof.Machine

/-! ## The validator outside its result latch -/

/-- The validator with a refused read's filler in its result latch (R37): what the operations of DECODE read and
write. -/
def State.validator (s : State) : Rxv := s.rxv.refuseRead

theorem Rxv.SameBuffer.refuseRead_eq {r r' : Rxv} (h : r.SameBuffer r') (hdrop : r'.drop = r.drop) :
    r'.refuseRead = r.refuseRead := by
  obtain ⟨drop, _, _, rfl⟩ := h
  cases hdrop
  rfl

theorem Rxv.store_refuseRead (r : Rxv) (d : Byte) : r.refuseRead.store d = (r.store d).refuseRead := by
  rw [Rxv.store, Rxv.store, apply_ite Rxv.refuseRead]
  rfl

theorem Rxv.sum_refuseRead (r : Rxv) (cnt : BufAddr) (d : Byte) :
    r.refuseRead.sum cnt d = (r.sum cnt d).refuseRead := by
  rw [Rxv.sum, Rxv.sum, apply_ite Rxv.refuseRead]
  rfl

/-- RXB neither reads nor writes the result latch (R37, R126). -/
theorem Rxv.present_refuseRead (r : Rxv) (d : Byte) : r.refuseRead.present d = (r.present d).refuseRead := by
  rw [Rxv.present, Rxv.present, Rxv.store_refuseRead, Rxv.sum_refuseRead, apply_ite Rxv.refuseRead]
  rfl

theorem Rxv.foldl_present_refuseRead (r : Rxv) (b : List Byte) :
    b.foldl Rxv.present r.refuseRead = (b.foldl Rxv.present r).refuseRead := by
  induction b generalizing r with
  | nil => rfl
  | cons d b ih => rw [List.foldl_cons, List.foldl_cons, Rxv.present_refuseRead, ih]

/-- RXEND neither reads nor writes the result latch, also when it faults (R37, R127). -/
theorem Rxv.close_refuseRead (r : Rxv) : r.refuseRead.close = r.close.map Rxv.refuseRead := by
  by_cases hd : r.done = true
  · rw [Rxv.close, Rxv.close, if_pos hd]
    exact if_pos hd
  rw [Rxv.close, Rxv.close, if_neg hd, Rxv.refuseRead_done, if_neg hd, Rxv.refuseRead_cnt, Rxv.refuseRead_acc,
    Rxv.refuseRead_buf]
  cases verdictOf r.cnt r.acc r.buf with
  | error f => rfl
  | ok v =>
    simp only [Except.bind]
    cases verdictLen v r.buf <;> rfl

theorem Rxv.judge_refuseRead (r : Rxv) (b : List Byte) : r.refuseRead.judge b = (r.judge b).map Rxv.refuseRead := by
  rw [Rxv.judge, Rxv.judge, ← Rxv.close_refuseRead, ← Rxv.foldl_present_refuseRead]
  rfl

/-! ## What a list of operations makes of the validator outside its result latch -/

theorem touchesBuffer_iff (i : Instr) :
    touchesBuffer i = true ↔ (part i = .rxv ∧ isRead i = false) ∨ part i = .all := by
  simp [touchesBuffer]

/-- A read writes the result latch and nothing else (R56, R129, R130). -/
theorem RxvEffect.refuseRead_eq_of_read {r r' : Rxv} {i : Instr} (h : RxvEffect r i r') (hi : isRead i = true) :
    r'.refuseRead = r.refuseRead := by
  cases h with
  | rxrd k h => exact (Rxv.readRaw_sameBuffer h).refuseRead_eq (Rxv.readRaw_drop h)
  | payrd i h => exact (Rxv.readPayload_sameBuffer h).refuseRead_eq (Rxv.readPayload_drop h)
  | rxclr | rxb | rxend | statusOk | statusFail => cases hi

/-- An action that leaves the latch alone makes the same of two validators that differ in their latches. -/
theorem exists_of_map_refuseRead {f : Rxv → Except Fault Rxv} {r r' u : Rxv}
    (hf : ∀ r, f r.refuseRead = (f r).map Rxv.refuseRead) (hr : r'.refuseRead = r.refuseRead) (h : f r = .ok u) :
    ∃ u', f r' = .ok u' ∧ u'.refuseRead = u.refuseRead := by
  have hmap : (f r').map Rxv.refuseRead = .ok u.refuseRead := by rw [← hf, hr, hf, h]; rfl
  cases hu : f r' with
  | error e => rw [hu] at hmap; cases hmap
  | ok u' => exact ⟨u', rfl, Except.ok.inj (hu ▸ hmap)⟩

/-- An operation that leaves the latch alone makes of the validator outside it what that alone tells. -/
theorem exec_validator_of_withRxv {i : Instr} {f : Rxv → Except Fault Rxv}
    (hexec : ∀ s, exec i s = s.withRxv (f s.rxv)) (hf : ∀ r, f r.refuseRead = (f r).map Rxv.refuseRead)
    {s s' t : State} (hs : s'.validator = s.validator) (h : exec i s = .next t) :
    ∃ t', exec i s' = .next t' ∧ t'.validator = t.validator := by
  obtain ⟨u, hu, rfl⟩ := State.withRxv_eq_next.1 (hexec s ▸ h)
  obtain ⟨u', hu', heq⟩ := exists_of_map_refuseRead hf hs hu
  exact ⟨s'.setRxv u', by rw [hexec, State.withRxv_ok hu'], heq⟩

/-- Operations of other units and reads leave the validator outside its latch (R59, R132). -/
theorem exec_validator_of_not_touches (i : Instr) (s t : State) (hi : touchesBuffer i = false)
    (h : exec i s = .next t) : t.validator = s.validator := by
  have hother : ¬ ((part i = .rxv ∧ isRead i = false) ∨ part i = .all) := by rw [← touchesBuffer_iff, hi]; nofun
  rcases (exec_effect h).rxv_cases with hr | hr | ⟨rfl, _⟩
  · exact congrArg Rxv.refuseRead hr
  · refine hr.refuseRead_eq_of_read ?_
    by_contra hread
    exact hother (.inl ⟨hr.part_eq, by simpa using hread⟩)
  · exact absurd (.inr rfl) hother

/-- The operations of DECODE, and RESET, make of the validator outside its latch what that alone tells (R132). -/
theorem exec_validator_of_touches (i : Instr) (s s' t : State) (hi : touchesBuffer i = true)
    (hs : s'.validator = s.validator) (h : exec i s = .next t) :
    ∃ t', exec i s' = .next t' ∧ t'.validator = t.validator := by
  cases i with
  | reset => cases h; exact ⟨_, rfl, rfl⟩
  | rxclr => exact exec_validator_of_withRxv (f := fun r => .ok r.clear) (fun _ => rfl) (fun _ => rfl) hs h
  | rxb d =>
    exact exec_validator_of_withRxv (f := fun r => .ok (r.present d)) (fun _ => rfl)
      (fun r => congrArg Except.ok (r.present_refuseRead d)) hs h
  | rxend => exact exec_validator_of_withRxv exec_rxend Rxv.close_refuseRead hs h
  | statusOk addr rest | statusFail addr rest =>
    exact exec_validator_of_withRxv (f := (Rxv.judge · _)) (fun _ => rfl) (Rxv.judge_refuseRead · _) hs h
  | _ => cases hi

theorem Rxv.sameBuffer_of_refuseRead_eq {r r' : Rxv} (h : r'.refuseRead = r.refuseRead) : r.SameBuffer r' :=
  ⟨r.drop, r'.rdData, r'.rdOk, congrArg (fun u : Rxv => { u with rdData := r'.rdData, rdOk := r'.rdOk }) h⟩

/-- What a validator reports does not depend on RX_DROP and its result latch. -/
theorem Rxv.SameBuffer.reports {r r' : Rxv} {b : List Byte} (h : r.SameBuffer r') (hr : r.Reports b) :
    r'.Reports b := by
  obtain ⟨_, _, _, rfl⟩ := h
  exact ⟨⟨hr.holds.cnt_eq, hr.holds.ovf_eq, hr.holds.read_eq, hr.holds.unlisted, hr.holds.acc_eq⟩, hr.closed,
    hr.verdict_eq, hr.payload_eq, hr.failure_len⟩

/-! ## RXRD of a closed buffer -/

/-- RXRD of a closed validator: the location's byte where it holds one, else refused (R129). -/
def Rxv.rawRead (r : Rxv) (k : BufAddr) : Rxv :=
  match r.buf.read k.toNat with
  | some v => r.latch v
  | none => r.refuseRead

/-- In a closed buffer the locations below RX_CNT are those that hold a byte, so RXRD is `Rxv.rawRead` (R52, R129). -/
theorem Rxv.Inv.readRaw_eq {r : Rxv} (hi : r.Inv) (hd : r.done = true) (k : BufAddr) :
    r.readRaw k = .ok (r.rawRead k) := by
  rw [Rxv.rawRead]
  by_cases hk : k.toNat < r.cnt.toNat
  · obtain ⟨v, hv⟩ := Memory.exists_read_of_lt hi.listed hk
    rw [hv]
    exact Rxv.readRaw_allowed hd hk hv
  · have hnone : r.buf.read k.toNat = none := by
      rw [Memory.read_range hi.listed, List.getElem?_eq_none]
      exact (Memory.length_bytes hi.listed).trans_le (not_lt.1 hk)
    rw [hnone]
    exact Rxv.readRaw_refused (.inr (not_lt.1 hk))

/-- The result latch after RXRD of a closed buffer: RD_OK tells whether the location holds a byte (R37, R129). -/
theorem Rxv.rawRead_latch (r : Rxv) (k : BufAddr) : (r.rawRead k).rdOk = (r.buf.read k.toNat).isSome ∧
    (r.rawRead k).rdData = (r.buf.read k.toNat).getD 0x00 := by
  rw [Rxv.rawRead]
  cases r.buf.read k.toNat <;> exact ⟨rfl, rfl⟩

theorem Rxv.rawRead_sameBuffer (r : Rxv) (k : BufAddr) : r.SameBuffer (r.rawRead k) := by
  rw [Rxv.rawRead]
  cases r.buf.read k.toNat with
  | some v => exact r.latch_sameBuffer v
  | none => exact r.refuseRead_sameBuffer

/-- What the validator retains of `b`: its first 261 bytes (R134, R203). -/
theorem Rxv.Holds.read_eq_take {r : Rxv} {b : List Byte} (h : r.Holds b) (k : Nat) :
    r.buf.read k = (b.take Config.rxbufDepth)[k]? := by
  rw [List.getElem?_take]
  split
  next hk => exact h.read_eq k hk
  next hk => exact h.unlisted k (not_lt.1 hk)

end Sys2Proof.Machine

open Sys2Proof Sys2Proof.Machine

/-- Settles O32: what stands between makes no difference to the validator outside its latch (`execList_filter`), and
what is left is DECODE. -/
theorem interleavedDecodeReportsOutcome : Obligations.InterleavedDecodeReportsOutcome := by
  intro b ops s hops
  refine ⟨fun t h => ?_, exists_execList ops⟩
  obtain ⟨t', ht', heq⟩ :=
    execList_filter exec_validator_of_not_touches exec_validator_of_touches (Eq.refl s.validator) h
  obtain ⟨r, hr, hreports, _⟩ := s.rxv.exists_judged b
  rw [hops, execList_decodeOps, State.withRxv_ok hr] at ht'
  cases ht'
  have hvalidator : t.rxv.refuseRead = r.refuseRead := heq.symm
  exact (Rxv.sameBuffer_of_refuseRead_eq hvalidator).reports hreports

/-- Settles O39: the closed validator holds the first 261 bytes, and RXRD reads them (`Rxv.Inv.readRaw_eq`). -/
theorem rawBytesStayReadable : Obligations.RawBytesStayReadable := by
  intro b k s
  obtain ⟨r, hr, hreports, _⟩ := s.rxv.exists_judged b
  have hread := (Rxv.judge_inv hr).readRaw_eq hreports.closed k
  obtain ⟨hok, hdata⟩ := r.rawRead_latch k
  rw [hreports.holds.read_eq_take] at hok hdata
  refine ⟨s.setRxv (r.rawRead k), ?_, hok.trans ?_, fun hset => ?_, ?_⟩
  · rw [execList_append, execList_decodeOps, State.withRxv_ok hr, andThen, execList_singleton, exec_rxrd]
    exact State.withRxv_ok hread
  · rw [Bool.eq_iff_iff]
    simp [Config.rxbufDepth, and_comm]
  · obtain ⟨v, hv⟩ := Option.isSome_iff_exists.1 (hok.symm.trans hset)
    rw [State.setRxv_rxv, hdata, hv, Option.getD_some]
    exact (Option.ite_none_right_eq_some.1 (List.getElem?_take.symm.trans hv)).2
  · exact ((r.rawRead_sameBuffer k).reports hreports).verdict_eq

end

section
/-! PROOFS. The flow of a catalog call (O52): the call, DECODE of its reply, and the reads of a payload or of a failed
reply's raw bytes, with the catalog looking after each operation (R182; logs 4, 8, 22, 23). -/

namespace Sys2Proof.Machine

/-! ## Lists of instructions under the catalog's look -/

theorem runList_cons {i : Instr} {s t : State} (h : exec i s = .next t) (l : List Instr) :
    runList (i :: l) s = runList l (t.watch (notice i)) := by
  rw [runList, h, watched, andThen]

theorem runList_singleton {i : Instr} {s t : State} (h : exec i s = .next t) :
    runList [i] s = .next (t.watch (notice i)) := by
  rw [runList_cons h, runList]

theorem runList_append (l l' : List Instr) (s : State) :
    runList (l ++ l') s = andThen (runList l s) (runList l') := by
  induction l generalizing s with
  | nil => rfl
  | cons i l ih =>
    rw [List.cons_append, runList, runList]
    cases watched (notice i) (exec i s) with
    | next t => exact ih t
    | fault | refused => rfl

theorem runList_append_of_next {l : List Instr} {s t : State} (h : runList l s = .next t) (l' : List Instr) :
    runList (l ++ l') s = runList l' t := by
  rw [runList_append, h, andThen]

/-! ## The catalog's look, by the stage of its request -/

theorem State.watch_of_sent {s : State} {n : Notice} (hq : s.request = .sent) (hn : n ≠ .opened) : s.watch n = s := by
  cases n with
  | opened => exact absurd rfl hn
  | payrd | rxrd | other => rw [State.watch, hq]

theorem State.watch_sent_opened {s : State} (hq : s.request = .sent) : s.watch .opened = s.collect := by
  rw [State.watch, hq]

theorem State.watch_of_listening {s : State} (hq : s.request = .listening) (n : Notice) : s.watch n = s.collect := by
  simp only [State.watch, hq]

theorem State.watch_reading_payrd {s : State} {got : List Byte} (hq : s.request = .reading got) (i : Byte) :
    s.watch (.payrd i) = s.takeByte got i := by
  rw [State.watch, hq]

theorem State.watch_reading_opened {s : State} {got : List Byte} (hq : s.request = .reading got) :
    s.watch .opened = s.loseReply := by
  rw [State.watch, hq]

theorem State.watch_of_idle {s : State} (hq : s.request = .idle) (n : Notice) : s.watch n = s.watchFailed n := by
  simp only [State.watch, hq]

theorem State.watch_failed_rxrd {s : State} {raw : Memory} (hq : s.request = .idle) (hc : s.catalog = .opFailed raw)
    (k : BufAddr) : s.watch (.rxrd k) = s.takeRaw raw k := by
  rw [State.watch_of_idle hq, State.watchFailed, hc]

theorem State.watch_failed_opened {s : State} {raw : Memory} (hq : s.request = .idle)
    (hc : s.catalog = .opFailed raw) : s.watch .opened = s.closeRaw raw := by
  rw [State.watch_of_idle hq, State.watchFailed, hc]

theorem State.setRequest_eq_self {s : State} {q : Request} (h : s.request = q) : s.setRequest q = s :=
  h ▸ s.setRequest_self

theorem State.collect_of_none {s : State} (h : s.rxv.verdict = .vNone) : s.collect = s.setRequest .listening := by
  rw [State.collect, h]

theorem State.collect_of_ok {s : State} (h : s.rxv.verdict = .vOk) : s.collect = s.awaitPayload [] := by
  rw [State.collect, h]

theorem State.collect_of_failed {s : State} (h : s.rxv.verdict = .vOpFailed) : s.collect = s.failOperation := by
  rw [State.collect, h]

/-- What the catalog does with a verdict does not depend on how far its request was. -/
theorem State.collect_setRequest (s : State) (q : Request) : (s.setRequest q).collect = s.collect := by
  rw [State.collect, State.collect, State.setRequest_rxv]
  cases s.rxv.verdict <;> rfl

theorem State.awaitPayload_of_lt {s : State} {got : List Byte} (h : got.length < s.rxv.plen.toNat) :
    s.awaitPayload got = s.setRequest (.reading got) := if_pos h

theorem State.awaitPayload_of_le {s : State} {got : List Byte} (h : s.rxv.plen.toNat ≤ got.length) :
    s.awaitPayload got = s.answer (.ok got) := if_neg (not_lt.2 h)

/-! ## A sent call -/

/-- The state after the call `c` was sent with the payload `p` (R182; log 4). -/
def State.sendCall (s : State) (c : NamedCall) (p : List Byte) : State :=
  ((s.setTxb (s.txb.sendFrame c.addr c.command p)).setRequest .sent).setCatalog .sent

section
variable {c : NamedCall} {p : List Byte} {s : State}

theorem exec_sendCall (hp : c.payload = .ok p) (hq : s.request = .idle) :
    exec c.toInstr s = .next (s.sendCall c p) := by
  rw [exec_toInstr, hp, catalogCall, if_pos hq, State.sendCall]

theorem runList_sendCall (hp : c.payload = .ok p) (hq : s.request = .idle) (l : List Instr) :
    runList (c.toInstr :: l) s = runList l (s.sendCall c p) := by
  rw [runList_cons (exec_sendCall hp hq), NamedCall.notice_toInstr,
    State.watch_of_sent (s := s.sendCall c p) rfl (n := .other) nofun]

theorem State.sendCall_out (hp : c.payload = .ok p) (hb : s.txb.busy = false) :
    (s.sendCall c p).txb.out = s.txb.out ++ frameEncode c.addr c.command p := by
  change (s.txb.sendFrame c.addr c.command p).out = _
  rw [Txb.sendFrame_idle c.addr c.command hb (NamedCall.payload_eq_ok hp).1, Txb.place_out, Txb.emit_out]

end

/-- A sent request stays so, and nothing is returned, until an item opens a buffer (R182; log 8). -/
theorem runList_keeps_sent {ops : List Instr} {s t : State}
    (hops : ∀ i ∈ ops, notice i ≠ .opened ∧ isCall i = false) (hq : s.request = .sent) (hc : s.catalog = .sent)
    (h : runList ops s = .next t) : t.request = .sent ∧ t.catalog = .sent := by
  induction ops generalizing s with
  | nil => cases h; exact ⟨hq, hc⟩
  | cons i ops ih =>
    obtain ⟨⟨hopened, hcall⟩, hops⟩ := List.forall_mem_cons.1 hops
    cases hexec : exec i s with
    | fault | refused => rw [runList, hexec] at h; cases h
    | next u =>
      obtain ⟨hcatalog, hrequest⟩ := (exec_effect hexec).catalog_eq hcall
      rw [runList_cons hexec, State.watch_of_sent (hrequest.trans hq) hopened] at h
      exact ih hops (hrequest.trans hq) (hcatalog.trans hc) h

/-! ## DECODE of the reply -/

/-- While no verdict is formed the catalog goes on listening. -/
theorem runList_rxb (b : List Byte) {s : State} (hq : s.request = .listening) (hv : s.rxv.verdict = .vNone) :
    runList (b.map .rxb) s = .next (s.setRxv (b.foldl Rxv.present s.rxv)) := by
  induction b generalizing s with
  | nil => rfl
  | cons d b ih =>
    have hv' : (s.setRxv (s.rxv.present d)).rxv.verdict = .vNone := (s.rxv.present_verdict d).1.trans hv
    have hq' : (s.setRxv (s.rxv.present d)).request = .listening := hq
    rw [List.map_cons, runList_cons (exec_rxb d s), State.watch_of_listening hq', State.collect_of_none hv',
      State.setRequest_eq_self hq', ih hq' hv']
    rfl

/-- After a sent call DECODE judges the reply, and the catalog takes its verdict (R182). -/
theorem runList_decodeOps {s : State} {b : List Byte} {r : Rxv} (hq : s.request = .sent) (hr : s.rxv.judge b = .ok r) :
    runList (decodeOps b) s = .next (s.setRxv r).collect := by
  have hrxb := runList_rxb b (s := (s.setRxv s.rxv.clear).setRequest .listening) rfl rfl
  have hrxend : exec .rxend (((s.setRxv s.rxv.clear).setRequest .listening).setRxv (b.foldl Rxv.present s.rxv.clear)) =
      .next ((s.setRxv r).setRequest .listening) := State.withRxv_ok hr
  rw [decodeOps, List.cons_append, runList_cons (exec_rxclr s)]
  change runList _ ((s.setRxv s.rxv.clear).watch .opened) = _
  rw [State.watch_sent_opened (s := s.setRxv s.rxv.clear) hq, State.collect_of_none rfl,
    runList_append_of_next hrxb, State.setRequest_rxv, State.setRxv_rxv, runList_singleton hrxend,
    State.watch_of_listening rfl, State.collect_setRequest]

/-- A call and DECODE of its reply: what comes after runs from the state in which the catalog has its verdict. -/
theorem runList_call_decodeOps {c : NamedCall} {p : List Byte} {s : State} (hp : c.payload = .ok p)
    (hq : s.request = .idle) (b : List Byte) : ∃ r : Rxv, r.Inv ∧ r.Reports b ∧ ∀ l,
      runList (c.toInstr :: (decodeOps b ++ l)) s = runList l ((s.sendCall c p).setRxv r).collect := by
  obtain ⟨r, hr⟩ := (s.sendCall c p).rxv.exists_judge b
  refine ⟨r, Rxv.judge_inv hr, Rxv.judge_reports hr, fun l => ?_⟩
  rw [runList_sendCall hp hq, runList_append_of_next (runList_decodeOps rfl hr)]

/-! ## The payload of a good reply -/

theorem payloadReads_succ (k : Nat) : payloadReads (k + 1) = payloadReads k ++ [.payrd (BitVec.ofNat 8 k)] := by
  rw [payloadReads, List.range_succ, List.map_append, List.map_singleton, payloadReads]

/-- Reads that put the bytes of `l` into the latch change nothing else (R37). -/
theorem Rxv.foldl_latch_sameBuffer (r : Rxv) (l : List Byte) : r.SameBuffer (l.foldl Rxv.latch r) := by
  induction l using List.reverseRecOn with
  | nil => exact .rfl
  | append_singleton l d ih =>
    obtain ⟨_, _, _, h⟩ := ih
    rw [List.foldl_concat, h]
    exact ⟨_, _, _, rfl⟩

theorem Rxv.foldl_latch_of_getLast? (r : Rxv) {l : List Byte} {d : Byte} (h : l.getLast? = some d) :
    (l.foldl Rxv.latch r).rdOk = true ∧ (l.foldl Rxv.latch r).rdData = d := by
  obtain ⟨l, rfl⟩ := List.getLast?_eq_some_iff.1 h
  rw [List.foldl_concat]
  exact ⟨rfl, rfl⟩

/-- While byte `got.length` of the payload is awaited, its PAYRD adds it to what was read (R130, R182; log 22). -/
theorem runList_awaited_payrd {s : State} {got : List Byte} {d : Byte} (hok : s.rxv.verdict = .vOk)
    (hlt : got.length < s.rxv.plen.toNat) (hd : s.rxv.buf.read (Config.rxPayFirst + got.length) = some d) :
    runList [.payrd (BitVec.ofNat 8 got.length)] (s.awaitPayload got) =
      .next ((s.setRxv (s.rxv.latch d)).awaitPayload (got ++ [d])) := by
  have hi : (BitVec.ofNat 8 got.length).toNat = got.length := Nat.mod_eq_of_lt (hlt.trans s.rxv.plen.isLt)
  have hread : s.rxv.readPayload (BitVec.ofNat 8 got.length) = .ok (s.rxv.latch d) :=
    Rxv.readPayload_allowed hok (hi.trans_lt hlt) (hi.symm ▸ hd)
  have hexec : exec (.payrd (BitVec.ofNat 8 got.length)) (s.setRequest (.reading got)) =
      .next ((s.setRxv (s.rxv.latch d)).setRequest (.reading got)) := State.withRxv_ok hread
  rw [State.awaitPayload_of_lt hlt, runList_singleton hexec]
  change Host.Outcome.next (State.watch _ (.payrd _)) = _
  rw [State.watch_reading_payrd rfl, State.takeByte, if_pos ⟨rfl, hi⟩]
  rfl

/-- The first `k` PAYRDs of a good reply: the catalog has its first `k` payload bytes, the latch the last of them. -/
theorem runList_payloadReads {s : State} {payload : List Byte} (hi : s.rxv.Inv) (hok : s.rxv.verdict = .vOk)
    (hpayload : s.rxv.payload = payload) (hplen : s.rxv.plen.toNat = payload.length) {k : Nat}
    (hk : k ≤ payload.length) : runList (payloadReads k) (s.awaitPayload []) =
      .next ((s.setRxv ((payload.take k).foldl Rxv.latch s.rxv)).awaitPayload (payload.take k)) := by
  induction k with
  | zero => rfl
  | succ k ih =>
    have hlen : (payload.take k).length = k := List.length_take_of_le (by omega)
    have hbyte : payload[k]? = some payload[k] := List.getElem?_eq_getElem hk
    have hread : s.rxv.buf.read (Config.rxPayFirst + k) = some payload[k] := by
      rw [← hi.payload_getElem? (by omega), hpayload, hbyte]
    obtain ⟨_, _, _, hsame⟩ := s.rxv.foldl_latch_sameBuffer (payload.take k)
    have hnext := runList_awaited_payrd (s := s.setRxv ((payload.take k).foldl Rxv.latch s.rxv))
      (got := payload.take k) (d := payload[k])
      (by rw [State.setRxv_rxv, hsame]; exact hok)
      (by rw [State.setRxv_rxv, hsame, hlen]; exact hplen ▸ hk)
      (by rw [State.setRxv_rxv, hsame, hlen]; exact hread)
    rw [hlen] at hnext
    rw [payloadReads_succ, runList_append_of_next (ih (by omega)), hnext, List.take_add_one, hbyte,
      Option.toList_some, List.foldl_concat]
    rfl

/-- A call whose reply is good, up to its `k`-th payload byte (R182; log 22). -/
theorem exists_runList_success {c : NamedCall} {p b payload : List Byte} {s : State} (hp : c.payload = .ok p)
    (hq : s.request = .idle) (hb : frameDecode b = .success payload) {k : Nat} (hk : k ≤ payload.length) :
    ∃ r : Rxv, r.plen.toNat = payload.length ∧
      (∀ d, (payload.take k).getLast? = some d → r.rdOk = true ∧ r.rdData = d) ∧
      runList (c.toInstr :: (decodeOps b ++ payloadReads k)) s =
        .next (((s.sendCall c p).setRxv r).awaitPayload (payload.take k)) := by
  obtain ⟨r, hi, hreports, hrun⟩ := runList_call_decodeOps hp hq b
  obtain ⟨hpayload, hplen⟩ := hreports.payload_eq payload hb
  have hok : r.verdict = .vOk := hreports.verdict_eq_ok_iff.2 ⟨payload, hb⟩
  obtain ⟨_, _, _, hsame⟩ := r.foldl_latch_sameBuffer (payload.take k)
  refine ⟨(payload.take k).foldl Rxv.latch r, by rw [hsame]; exact hplen, fun d => r.foldl_latch_of_getLast?, ?_⟩
  rw [hrun, State.collect_of_ok hok]
  exact runList_payloadReads (s := (s.sendCall c p).setRxv r) hi hok hpayload hplen hk

/-! ## What a call returns -/

/-- How many PAYRDs a reply takes (R182). -/
def DecodeOutcome.payloadLength : DecodeOutcome → Nat
  | .success payload => payload.length
  | _ => 0

/-- What the call returns of a reply: the payload, or the error of that name (R186), with no raw byte read (log 23). -/
def DecodeOutcome.reply : DecodeOutcome → Except CatalogError (List Byte)
  | .success payload => .ok payload
  | .malformedFrame => .error .malformedFrame
  | .checksumMismatch => .error .checksumMismatch
  | .invalidHeader => .error .invalidHeader
  | .operationFailed _ => .error (.operationFailed [])
  | .unexpectedStatus => .error .unexpectedStatus

/-- A verdict other than V_OK ends the request with the error that it names (R186). -/
theorem State.collect_of_failure {s : State} {o : DecodeOutcome} (hv : s.rxv.verdict = o.verdict)
    (hfail : ∀ payload, o ≠ .success payload) :
    s.collect.request = .idle ∧ catalogReturn s.collect = some o.reply ∧ s.collect.txb = s.txb := by
  rw [State.collect, hv]
  cases o with
  | success payload => exact absurd rfl (hfail payload)
  | malformedFrame | checksumMismatch | invalidHeader | operationFailed | unexpectedStatus => exact ⟨rfl, rfl, rfl⟩

section
variable {c : NamedCall} {p : List Byte} {s : State}

/-- A call, DECODE of its reply and the PAYRDs of its payload: the call has returned (R182, R186). -/
theorem exists_reply (hp : c.payload = .ok p) (hq : s.request = .idle) (hbusy : s.txb.busy = false) (b : List Byte) :
    ∃ t : State, runList (c.toInstr :: (decodeOps b ++ payloadReads (frameDecode b).payloadLength)) s = .next t
      ∧ t.txb.out = s.txb.out ++ frameEncode c.addr c.command p ∧ t.request = .idle
      ∧ catalogReturn t = some (frameDecode b).reply
      ∧ ∀ payload d, frameDecode b = .success payload → payload.getLast? = some d →
          t.rxv.rdOk = true ∧ t.rxv.rdData = d := by
  have hout := State.sendCall_out hp hbusy
  by_cases hsuccess : ∃ payload, frameDecode b = .success payload
  · obtain ⟨payload, hb⟩ := hsuccess
    obtain ⟨r, hplen, hlatch, hrun⟩ := exists_runList_success hp hq hb (Nat.le_refl payload.length)
    rw [List.take_length] at hlatch hrun
    rw [State.awaitPayload_of_le (s := (s.sendCall c p).setRxv r) (Nat.le_of_eq hplen)] at hrun
    rw [hb]
    refine ⟨_, hrun, hout, rfl, rfl, fun payload' d h hlast => ?_⟩
    cases h
    exact hlatch d hlast
  · have hfail : ∀ payload, frameDecode b ≠ .success payload := fun payload h => hsuccess ⟨payload, h⟩
    have hnone : (frameDecode b).payloadLength = 0 := by
      cases h : frameDecode b with
      | success payload => exact absurd h (hfail payload)
      | _ => rfl
    obtain ⟨r, _, hreports, hrun⟩ := runList_call_decodeOps hp hq b
    obtain ⟨hidle, hreturn, htxb⟩ :=
      State.collect_of_failure (s := (s.sendCall c p).setRxv r) hreports.verdict_eq hfail
    rw [hnone, hrun]
    exact ⟨_, rfl, by rw [htxb]; exact hout, hidle, hreturn, fun payload _ h => absurd h (hfail payload)⟩

/-- Before the last PAYRD nothing has been returned, and what was read is kept (R186; log 22). -/
theorem exists_reading (hp : c.payload = .ok p) (hq : s.request = .idle) {b : List Byte} {k : Nat}
    (hk : k < (frameDecode b).payloadLength) :
    ∃ t : State, runList (c.toInstr :: (decodeOps b ++ payloadReads k)) s = .next t ∧ catalogReturn t = none
      ∧ ∃ payload, frameDecode b = .success payload ∧ t.request = .reading (payload.take k) := by
  cases hb : frameDecode b with
  | success payload =>
    rw [hb] at hk
    obtain ⟨r, hplen, _, hrun⟩ := exists_runList_success hp hq hb (Nat.le_of_lt hk)
    have hlt : (payload.take k).length < r.plen.toNat := by
      rw [hplen, List.length_take_of_le (Nat.le_of_lt hk)]
      exact hk
    rw [State.awaitPayload_of_lt (s := (s.sendCall c p).setRxv r) hlt] at hrun
    exact ⟨_, hrun, rfl, payload, rfl, rfl⟩
  | _ => rw [hb] at hk; exact absurd hk (Nat.not_lt_zero k)

end

/-! ## The raw bytes of a failed reply -/

theorem frameDecode_eq_operationFailed {b raw : List Byte} (h : frameDecode b = .operationFailed raw) : raw = b := by
  unfold frameDecode at h
  split at h
  · cases h
  split at h
  · cases h
  split at h
  · cases h
  split at h
  · split at h <;> cases h
  split at h
  · cases h; rfl
  · cases h

/-- `raw` with what location `k` of `buf` holds, if anything (R129; log 23). -/
def Memory.copyAt (raw buf : Memory) (k : Nat) : Memory :=
  match buf.read k with
  | some v => raw.write k v
  | none => raw

/-- What `raw` holds of `buf` at the addresses of `l`, it then holds at `k` too. -/
theorem Memory.read_copyAt {raw buf : Memory} {l : List Nat}
    (h : ∀ j, raw.read j = if j ∈ l then buf.read j else none) (k j : Nat) :
    (raw.copyAt buf k).read j = if j ∈ l ++ [k] then buf.read j else none := by
  rw [Memory.copyAt]
  by_cases hjk : j = k
  · subst hjk
    rw [if_pos (by simp)]
    cases hv : buf.read j with
    | some v => exact raw.read_write_same j v
    | none => exact (h j).trans (by rw [hv, ite_self])
  · have hmem : j ∈ l ++ [k] ↔ j ∈ l := by simp [hjk]
    rw [if_congr hmem rfl rfl, ← h j]
    cases buf.read k with
    | some v => exact raw.read_write_other v hjk
    | none => rfl

theorem Rxv.foldl_rawRead_sameBuffer (r : Rxv) (ks : List BufAddr) : r.SameBuffer (ks.foldl Rxv.rawRead r) := by
  induction ks using List.reverseRecOn with
  | nil => exact .rfl
  | append_singleton ks k ih =>
    obtain ⟨_, _, _, h⟩ := ih
    obtain ⟨_, _, _, h'⟩ := (ks.foldl Rxv.rawRead r).rawRead_sameBuffer k
    rw [List.foldl_concat, h', h]
    exact ⟨_, _, _, rfl⟩

/-- After RXRDs the latch is as the last of them left it (R37, R129). -/
theorem Rxv.foldl_rawRead_latch (r : Rxv) {ks : List BufAddr} {k : BufAddr} (h : ks.getLast? = some k) :
    (ks.foldl Rxv.rawRead r).rdOk = (r.buf.read k.toNat).isSome ∧
      (ks.foldl Rxv.rawRead r).rdData = (r.buf.read k.toNat).getD 0x00 := by
  obtain ⟨ks, rfl⟩ := List.getLast?_eq_some_iff.1 h
  obtain ⟨_, _, _, hsame⟩ := r.foldl_rawRead_sameBuffer ks
  have hlatch := (ks.foldl Rxv.rawRead r).rawRead_latch k
  rw [List.foldl_concat]
  rwa [show (ks.foldl Rxv.rawRead r).buf = r.buf by rw [hsame]] at hlatch

/-- One RXRD on the buffer of an `OperationFailed` adds its byte to the raw response (log 23). -/
theorem runList_rxrd_of_failed {s : State} (hi : s.rxv.Inv) (hd : s.rxv.done = true) (hq : s.request = .idle)
    (raw : Memory) (k : BufAddr) : runList [.rxrd k] (s.setCatalog (.opFailed raw)) =
      .next ((s.setRxv (s.rxv.rawRead k)).setCatalog (.opFailed (raw.copyAt s.rxv.buf k.toNat))) := by
  have hexec : exec (.rxrd k) (s.setCatalog (.opFailed raw)) =
      .next ((s.setRxv (s.rxv.rawRead k)).setCatalog (.opFailed raw)) := State.withRxv_ok (hi.readRaw_eq hd k)
  rw [runList_singleton hexec]
  change Host.Outcome.next (State.watch _ (.rxrd k)) = _
  rw [State.watch_failed_rxrd (s := (s.setRxv (s.rxv.rawRead k)).setCatalog (.opFailed raw)) hq rfl, State.takeRaw,
    Memory.copyAt, Rxv.rawRead]
  cases s.rxv.buf.read k.toNat <;> rfl

/-- RXRDs on the buffer of an `OperationFailed`: the raw response holds what was read, and nothing else (log 23). -/
theorem exists_runList_rawReads {s : State} (hi : s.rxv.Inv) (hd : s.rxv.done = true) (hq : s.request = .idle)
    (ks : List BufAddr) : ∃ raw : Memory,
      runList (rawReads ks) (s.setCatalog (.opFailed [])) =
        .next ((s.setRxv (ks.foldl Rxv.rawRead s.rxv)).setCatalog (.opFailed raw)) ∧
      ∀ j, raw.read j = if j ∈ ks.map BitVec.toNat then s.rxv.buf.read j else none := by
  induction ks using List.reverseRecOn with
  | nil => exact ⟨[], rfl, fun _ => rfl⟩
  | append_singleton ks k ih =>
    obtain ⟨raw, hrun, hraw⟩ := ih
    have hsame := s.rxv.foldl_rawRead_sameBuffer ks
    have hbuf : (ks.foldl Rxv.rawRead s.rxv).buf = s.rxv.buf := by obtain ⟨_, _, _, h⟩ := hsame; rw [h]
    have hdone : (ks.foldl Rxv.rawRead s.rxv).done = true := by obtain ⟨_, _, _, h⟩ := hsame; rw [h]; exact hd
    have hnext := runList_rxrd_of_failed (s := s.setRxv (ks.foldl Rxv.rawRead s.rxv)) (hsame.inv hi) hdone hq raw k
    rw [State.setRxv_rxv, hbuf] at hnext
    refine ⟨raw.copyAt s.rxv.buf k.toNat, ?_, fun j => ?_⟩
    · rw [rawReads, List.map_append, List.map_singleton, ← rawReads, runList_append_of_next hrun, hnext,
        List.foldl_concat]
      rfl
    · rw [List.map_append, List.map_singleton]
      exact Memory.read_copyAt hraw k.toNat j

/-- A call whose reply is an `OperationFailed`, and RXRDs of its raw bytes (R129, R186; logs 18, 23). -/
theorem exists_rawResponse {c : NamedCall} {p b response : List Byte} {s : State} (hp : c.payload = .ok p)
    (hq : s.request = .idle) (hb : frameDecode b = .operationFailed response) (ks : List BufAddr) :
    ∃ (t : State) (raw : Memory), runList (c.toInstr :: (decodeOps b ++ rawReads ks)) s = .next t
      ∧ t.request = .idle ∧ catalogReturn t = some (.error (.operationFailed raw))
      ∧ (∀ k, raw.read k = if k ∈ ks.map BitVec.toNat then (response.take Config.rxbufDepth)[k]? else none)
      ∧ ∀ a ∈ ks.getLast?, t.rxv.rdOk = (response.take Config.rxbufDepth)[a.toNat]?.isSome
          ∧ t.rxv.rdData = ((response.take Config.rxbufDepth)[a.toNat]?).getD 0x00 := by
  obtain rfl := frameDecode_eq_operationFailed hb
  obtain ⟨r, hi, hreports, hrun⟩ := runList_call_decodeOps hp hq response
  have hfailed : r.verdict = .vOpFailed := by rw [hreports.verdict_eq, hb]; rfl
  obtain ⟨raw, hreads, hraw⟩ := exists_runList_rawReads (s := ((s.sendCall c p).setRxv r).setRequest .idle) hi
    hreports.closed rfl ks
  have hdecoded : runList (c.toInstr :: (decodeOps response ++ rawReads ks)) s =
      runList (rawReads ks) ((((s.sendCall c p).setRxv r).setRequest .idle).setCatalog (.opFailed [])) := by
    rw [hrun, State.collect_of_failed hfailed]
    rfl
  refine ⟨_, raw, hdecoded.trans hreads, rfl, rfl, fun k => ?_, fun a ha => ?_⟩
  · rw [hraw]
    exact if_congr Iff.rfl (hreports.holds.read_eq_take k) rfl
  · have hlatch := r.foldl_rawRead_latch ha
    rwa [hreports.holds.read_eq_take] at hlatch

/-! ## Reports of the transport, and buffers opened too early -/

theorem step_transportFailed {e : TransportError} {s : State} {rest : List Issue}
    (h : s.issue = .transportFailed e :: rest) : step s = .next ((s.setIssue rest).transportFailed e) := by
  rw [step_item h]
  rfl

theorem isCall_of_opened {i : Instr} (h : notice i = .opened) : isCall i = false := by
  rcases notice_eq_opened h with rfl | rfl | ⟨_, _, rfl⟩ | ⟨_, _, rfl⟩ <;> rfl

end Sys2Proof.Machine

open Sys2Proof Sys2Proof.Machine

/-- Settles O52, clause by clause: the reply (`exists_reply`, `exists_reading`), the raw response
(`exists_rawResponse`), the wait (`runList_keeps_sent`), the call's own error, the transport's report, and a buffer
opened too early. -/
theorem callsReturnTheirReply : Obligations.CallsReturnTheirReply := by
  refine ⟨fun c p b s hp hq hbusy => ⟨exists_reply hp hq hbusy b, fun k hk => exists_reading hp hq hk⟩,
    fun c p b response ks s hp hq hb => exists_rawResponse hp hq hb ks,
    fun c p ops s t hp hq hops h => ?_, fun c e s he => ⟨?_, rfl⟩, fun e s rest hs => ⟨fun hq => ?_, fun hq => ?_⟩,
    fun i s u hn hu => ?_⟩
  · rw [runList_sendCall hp hq] at h
    obtain ⟨hrequest, hcatalog⟩ := runList_keeps_sent hops rfl rfl h
    exact ⟨hrequest, by rw [catalogReturn, hcatalog]⟩
  · rw [exec_toInstr]
    exact catalogCall_of_error he c.addr c.command s
  · rcases (s.setIssue rest).transportFailed_cases e with ⟨_, h⟩ | ⟨hne, _⟩
    · rw [step_transportFailed hs, h]
    · exact absurd hq hne
  · rcases (s.setIssue rest).transportFailed_cases e with ⟨hidle, _⟩ | ⟨_, h⟩
    · exact absurd hidle hq
    · exact ⟨_, (step_transportFailed hs).trans (congrArg _ h), rfl, rfl, rfl, rfl, rfl, rfl, rfl, rfl⟩
  · obtain ⟨hcatalog, hrequest⟩ := (exec_effect hu).catalog_eq (isCall_of_opened hn)
    have hrun := runList_singleton hu
    rw [hn] at hrun
    refine ⟨fun got hgot => ?_, fun raw hq hc => ?_⟩
    · rw [State.watch_reading_opened (hrequest.trans hgot)] at hrun
      exact ⟨_, hrun, rfl, rfl, rfl⟩
    · rw [State.watch_failed_opened (hrequest.trans hq) (hcatalog.trans hc)] at hrun
      exact ⟨_, hrun, rfl, hrequest.trans hq, rfl⟩

end

section
/-! PROOFS. PACK on the state (O42), the closed form of the packer's parity bits and of its result (O44), and that
the result tells its operands apart (O45). -/

namespace Sys2Proof.Machine

theorem exec_pack (f : Byte) (id : Half) (s : State) :
    exec (.pack f id) s = .next (s.setCnp { out := pack f id, valid := true }) := rfl

/-! ## Parity as a sum of bits -/

theorem odd_countP_eq_foldr (p : Nat → Bool) (l : List Nat) :
    (l.countP p % 2 == 1) = l.foldr (fun i odd => p i ^^ odd) false := by
  induction l with
  | nil => rfl
  | cons i l ih =>
    rw [List.foldr_cons, ← ih, List.countP_cons]
    cases p i
    · simp
    · rcases Nat.mod_two_eq_zero_or_one (l.countP p) with h | h <;> simp [Nat.add_mod, h]

/-- The parity of a value is the sum of its bits modulo 2 (R11). -/
theorem parity_eq_foldr (v : Half) :
    parity v = (List.range 16).foldr (fun i odd => v.getLsbD i ^^ odd) false :=
  odd_countP_eq_foldr _ _

/-- What `ac_rfl` needs to reorder a sum of bits. -/
theorem xor_commutative : Std.Commutative xor := ⟨Bool.xor_comm⟩

/-! ## The two parity bits -/

/-- The two parts of the even-parity pattern share no bit (R153). -/
theorem evenPattern_eq_or (f : Byte) (id : Half) : evenPattern f id = wide f <<< 8 ||| (id >>> 8 &&& 0xF0) := by
  refine BitVec.add_eq_or_of_and_eq_zero _ _ ?_
  ext i hi
  interval_cases i <;> simp [wide]

/-- Nor do those of the odd-parity pattern, at the spec's literal (R154, R157). -/
theorem oddPattern_eq_or (id : Half) (o3 : Byte) :
    oddPattern Config.pack id o3 = (id >>> 8 &&& 0x0F) <<< 8 ||| wide o3 := by
  refine BitVec.add_eq_or_of_and_eq_zero _ (wide o3) ?_
  ext i hi
  interval_cases i <;> simp [wide]

/-- EP: the facility and the top four bits of the id (R159). -/
theorem parity_evenPattern (f : Byte) (id : Half) : parity (evenPattern f id) =
    (parity (wide f) ^^ id.getLsbD 15 ^^ id.getLsbD 14 ^^ id.getLsbD 13 ^^ id.getLsbD 12) := by
  have := xor_commutative
  rw [evenPattern_eq_or, parity_eq_foldr, parity_eq_foldr]
  simp [List.range_succ, wide]
  ac_rfl

/-- A bit that stands in a sum twice does not count. -/
theorem xor_twice (n a b c d : Bool) : (a ^^ n ^^ b ^^ c ^^ d ^^ n) = (d ^^ c ^^ b ^^ a) := by
  have := xor_commutative
  calc
    _ = ((n ^^ n) ^^ (d ^^ c ^^ b ^^ a)) := by ac_rfl
    _ = _ := by rw [Bool.xor_self, Bool.false_xor]

/-- The odd pattern holds `id[11:8]` twice, alone and inside byte 3 (`id[14:7]`), so these bits cancel (R159). -/
theorem parity_oddPattern (id : Half) : parity (oddPattern Config.pack id (trunc8 (id >>> 7))) =
    (id.getLsbD 14 ^^ id.getLsbD 13 ^^ id.getLsbD 12 ^^ id.getLsbD 7) := by
  rw [← xor_twice (id.getLsbD 8 ^^ id.getLsbD 9 ^^ id.getLsbD 10 ^^ id.getLsbD 11), oddPattern_eq_or,
    parity_eq_foldr]
  simp [List.range_succ, wide, trunc8]

/-! ## The bytes in closed form -/

theorem packStart_eq_or (top even : Bool) :
    Config.packStart ^^^ bitByte top ^^^ (if even then (0x02 : Byte) else 0x00) =
      0x04 ||| (BitVec.ofBool even).setWidth 8 <<< 1 ||| (BitVec.ofBool top).setWidth 8 := by
  revert top even
  decide

/-- Seven bits shifted up by one, and one bit below them (R152). -/
theorem shifted_eq_or (v : Half) (b : Bool) : trunc8 (v <<< 1) ^^^ bitByte b =
    (v.extractLsb' 0 7).setWidth 8 <<< 1 ||| (BitVec.ofBool b).setWidth 8 := by
  apply BitVec.eq_of_getLsbD_eq
  rintro (_ | i) hi
  · rw [shifted_getLsbD_zero]
    simp
  · have : i < 7 := by omega
    rw [shifted_getLsbD_succ v b this]
    simp [*]

theorem wide_extractLsb' (f : Byte) : (wide f).extractLsb' 0 7 = f.extractLsb' 0 7 := by
  ext i hi
  have : i < 16 := by omega
  simp [wide, this]

theorem trunc8_ushiftRight (id : Half) : trunc8 (id >>> 7) = id.extractLsb' 7 8 := by
  ext i hi
  simp [trunc8]

@[ext] theorem CardBytes.ext {a b : CardBytes} (h0 : a.o0 = b.o0) (h1 : a.o1 = b.o1) (h2 : a.o2 = b.o2)
    (h3 : a.o3 = b.o3) (h4 : a.o4 = b.o4) : a = b := by
  cases a
  cases b
  exact CardBytes.mk.injEq .. ▸ ⟨h0, h1, h2, h3, h4⟩

/-! ## The operands read back from the bytes -/

/-- The facility stands in byte 2, its top bit in byte 1 (R76). -/
theorem facility_eq_of_pack_eq {f g : Byte} {id jd : Half} (h : pack f id = pack g jd) : f = g := by
  obtain ⟨_, htop, _, hlow, _⟩ := packBitTable f id
  obtain ⟨_, htop', _, hlow', _⟩ := packBitTable g jd
  apply BitVec.eq_of_getLsbD_eq
  intro i hi
  obtain hi | rfl : i < 7 ∨ i = 7 := by omega
  · rw [← hlow i hi, ← hlow' i hi, h]
  · exact (htop 0).symm.trans (h ▸ htop' 0)

/-- The low seven bits of the id stand in byte 4, the next eight in byte 3 (R76). -/
theorem id_low_eq_of_pack_eq {f g : Byte} {id jd : Half} (h : pack f id = pack g jd) {i : Nat} (hi : i < 15) :
    id.getLsbD i = jd.getLsbD i := by
  obtain ⟨_, _, _, _, hhigh, _, hlow⟩ := packBitTable f id
  obtain ⟨_, _, _, _, hhigh', _, hlow'⟩ := packBitTable g jd
  by_cases hseven : i < 7
  · rw [← hlow i hseven, ← hlow' i hseven, h]
  · obtain ⟨k, rfl⟩ : ∃ k, i = k + 7 := ⟨i - 7, by omega⟩
    rw [← hhigh k (by omega), ← hhigh' k (by omega), h]

/-- The top bit of the id stands in the even parity only, from which the other operand bits take it back (R79). -/
theorem id_top_eq_of_pack_eq {f g : Byte} {id jd : Half} (h : pack f id = pack g jd) :
    id.getLsbD 15 = jd.getLsbD 15 := by
  obtain ⟨_, heven, _⟩ := packBitTable f id
  obtain ⟨_, heven', _⟩ := packBitTable g jd
  have hparity : parity (evenPattern f id) = parity (evenPattern g jd) :=
    (heven 1).symm.trans (h ▸ heven' 1)
  rw [parity_evenPattern, parity_evenPattern, facility_eq_of_pack_eq h, id_low_eq_of_pack_eq h (i := 14) (by omega),
    id_low_eq_of_pack_eq h (i := 13) (by omega), id_low_eq_of_pack_eq h (i := 12) (by omega)] at hparity
  simpa only [Bool.xor_left_inj, Bool.xor_right_inj] using hparity

theorem pack_injective {f g : Byte} {id jd : Half} (h : pack f id = pack g jd) : f = g ∧ id = jd := by
  refine ⟨facility_eq_of_pack_eq h, BitVec.eq_of_getLsbD_eq fun i hi => ?_⟩
  obtain hi | rfl : i < 15 ∨ i = 15 := by omega
  · exact id_low_eq_of_pack_eq h hi
  · exact id_top_eq_of_pack_eq h

theorem packStart_range (top even : Bool) :
    0x04 ≤ (Config.packStart ^^^ bitByte top ^^^ (if even then 0x02 else 0x00)).toNat ∧
      (Config.packStart ^^^ bitByte top ^^^ (if even then 0x02 else 0x00)).toNat ≤ 0x07 := by
  revert top even
  decide

/-! ## Bit 15 of the id -/

/-- Bit 15 of the id counts once in the even parity (R159). -/
theorem parity_evenPattern_flip15 (f : Byte) (id : Half) :
    parity (evenPattern f (id ^^^ 0x8000)) = !parity (evenPattern f id) := by
  simp [parity_evenPattern]

/-- The odd parity does not depend on bit 15 of the id (R159). -/
theorem parity_oddPattern_flip15 (id : Half) :
    parity (oddPattern Config.pack (id ^^^ 0x8000) (trunc8 ((id ^^^ 0x8000) >>> 7))) =
      parity (oddPattern Config.pack id (trunc8 (id >>> 7))) := by
  simp [parity_oddPattern]

theorem trunc8_ushiftRight_flip15 (id : Half) : trunc8 ((id ^^^ 0x8000) >>> 7) = trunc8 (id >>> 7) := by
  rw [trunc8, BitVec.ushiftRight_xor_distrib, BitVec.setWidth_xor]
  exact BitVec.xor_zero

theorem trunc8_shiftLeft_flip15 (id : Half) : trunc8 ((id ^^^ 0x8000) <<< 1) = trunc8 (id <<< 1) := by
  rw [trunc8, BitVec.shiftLeft_xor_distrib, BitVec.setWidth_xor]
  exact BitVec.xor_zero

theorem pack_flip15 (f : Byte) (id : Half) :
    pack f (id ^^^ 0x8000) = { pack f id with o1 := (pack f id).o1 ^^^ 0x02 } := by
  ext : 1
  case h0 => rw [pack_o0, pack_o0]
  case h1 =>
    simp only [pack_o1, parity_evenPattern_flip15]
    cases parity (evenPattern f id) <;> simp
  case h2 =>
    simp only [pack_o2]
    simp
  case h3 => simp only [pack_o3, trunc8_ushiftRight_flip15]
  case h4 => simp only [pack_o4, pack_o3, parity_oddPattern_flip15, trunc8_shiftLeft_flip15]

end Sys2Proof.Machine

open Sys2Proof Sys2Proof.Machine

/-- Settles O42: what `exec_pack` writes replaces the whole CNP unit, so an earlier PACK leaves no trace. -/
theorem packWritesResult : Obligations.PackWritesResult :=
  ⟨exec_pack, fun f g id jd s => by rw [execList_pair, exec_pack]; rfl, by decide⟩

/-- Settles O44, from the parity of the two patterns. -/
theorem packClosedForm : Obligations.PackClosedForm := by
  intro f id
  have hodd : (!parity (oddPattern Config.pack id (pack f id).o3)) =
      (true ^^ id.getLsbD 14 ^^ id.getLsbD 13 ^^ id.getLsbD 12 ^^ id.getLsbD 7) := by
    rw [pack_o3, parity_oddPattern]
    simp
  refine ⟨parity_evenPattern f id, hodd, ?_⟩
  ext : 1
  case h0 => exact pack_o0 f id
  case h1 => rw [pack_o1, packStart_eq_or, parity_evenPattern]
  case h2 => rw [pack_o2, shifted_eq_or, wide_extractLsb']
  case h3 => rw [pack_o3, trunc8_ushiftRight]
  case h4 => rw [pack_o4, shifted_eq_or, hodd]

/-- Settles O45: each operand bit is read back from the bytes (`pack_injective`), and bit 15 of the id stands in EP
alone (`pack_flip15`). -/
theorem packIsInjective : Obligations.PackIsInjective :=
  ⟨fun _ _ _ _ => pack_injective, fun f id => pack_o1 f id ▸ packStart_range _ _, pack_flip15⟩

end

section
/-! PROOFS. NOP (O10), RESET (O11), and OP_ERR under every instruction (O13). -/

namespace Sys2Proof

theorem opField_toNat (w : OpWord) : (opField w).toNat = w.toNat / 2 ^ 24 := by
  have hw := w.isLt
  rw [opField, BitVec.extractLsb'_toNat, Nat.shiftRight_eq_div_pow, Nat.mod_eq_of_lt (by omega)]

/-- A word with operation code 0 is NOP, whatever its other fields hold (R81, R84). -/
theorem decodeWord_of_lt {w : OpWord} (h : w.toNat < 0x1000000) : decodeWord w = .nop := by
  have hop : (opField w).toNat = 0 := (opField_toNat w).trans (Nat.div_eq_of_lt h)
  simp [decodeWord, hop]

end Sys2Proof

namespace Sys2Proof.Machine

theorem exec_nop (s : State) : exec .nop s = .next s := rfl

theorem exec_reset (s : State) :
    exec .reset s = .next (((State.reset.setIssue s.issue).setRequest s.request).setCatalog s.catalog) := rfl

/-- OP_ERR is kept, or set by a reserved code, or cleared by RESET (R38, R167). -/
theorem ExecEffect.opErr_cases {s t : State} {i : Instr} (h : ExecEffect s i t) :
    t.opErr = s.opErr ∨ (part i = .flag ∧ t.opErr = true) ∨ (i = .reset ∧ t.opErr = false) := by
  cases h with
  | nop | xclr | xabs | pack | txb | rxv => exact .inl rfl
  | reset => exact .inr (.inr ⟨rfl, rfl⟩)
  | reserved hp => exact .inr (.inl ⟨hp, rfl⟩)
  | call c hc => obtain ⟨_, _, _, rfl, _⟩ := catalogCall_next hc; exact .inl rfl

end Sys2Proof.Machine

open Sys2Proof Sys2Proof.Machine

/-- Settles O10. -/
theorem nopChangesNothing : Obligations.NopChangesNothing :=
  ⟨exec_nop, fun _ hw => congrArg Decoded.instr (decodeWord_of_lt hw)⟩

/-- Settles O11: the units that RESET leaves are those of `State.reset`, and R166 lists their values. -/
theorem resetOperationRestoresResetState : Obligations.ResetOperationRestoresResetState := by
  intro s
  refine ⟨_, exec_reset s, ?_⟩
  simp [State.reset, Chk.reset, Rxv.reset, Txb.reset, Cnp.reset]

/-- Settles O13: the reserved codes are those of `exec_of_reserved`, and `ExecEffect.opErr_cases` lists all that an
instruction can do to OP_ERR. -/
theorem reservedCodesOnlySetOpErr : Obligations.ReservedCodesOnlySetOpErr := by
  refine ⟨fun s => ⟨?_, ?_, ?_⟩, fun i s t hi h hset => ?_, fun s t h => ?_⟩
  · exact exec_of_reserved (op := 0xD) (by simp [reservedRows]) s
  · exact exec_of_reserved (op := 0xE) (by simp [reservedRows]) s
  · exact exec_of_reserved (op := 0xF) (by simp [reservedRows]) s
  · rcases (exec_effect h).opErr_cases with hkept | ⟨_, hset'⟩ | ⟨hreset, _⟩
    · exact hkept.trans hset
    · exact hset'
    · exact absurd hreset hi
  · cases h
    rfl

end

section
/-! PROOFS. The catalog's calls one step at a time: a call whose arguments pass sends its frame (O46, O47), a call
with a bad argument issues nothing (O49), and Write Tag Sector never issues anything (O51). -/

namespace Sys2Proof.Machine

/-- The state after the frame of a call was sent from an idle builder (R110, R182; logs 4, 8). -/
def State.afterFrame (s : State) (addr cmd : Byte) (p : List Byte) : State :=
  { s with
    request := .sent, catalog := .sent
    txb := { busy := false, rem := 0, acc := xor8 (frameCovered addr cmd p)
             out := s.txb.out ++ frameEncode addr cmd p, err := s.txb.err } }

/-- A sent call leaves an idle builder idle, with its frame appended to what was sent: ENCODE on an idle builder, of
a payload that fits the length byte because its validator accepted it (R73, R110). -/
theorem State.sendCall_eq_afterFrame {c : NamedCall} {p : List Byte} {s : State} (hp : c.payload = .ok p)
    (hb : s.txb.busy = false) : s.sendCall c p = s.afterFrame c.addr c.command p := by
  obtain ⟨hlen, _⟩ := NamedCall.payload_eq_ok hp
  rw [State.sendCall, Txb.sendFrame_idle c.addr c.command hb hlen]
  rfl

theorem exec_toInstr_of_idle {s : State} (hb : s.txb.busy = false) (hq : s.request = .idle) (c : NamedCall)
    {p : List Byte} (hp : c.payload = .ok p) :
    exec c.toInstr s = .next (s.afterFrame c.addr c.command p) := by
  rw [exec_sendCall hp hq, State.sendCall_eq_afterFrame hp hb]

end Sys2Proof.Machine

open Sys2Proof Sys2Proof.Machine

/-- Settles O46: the payload validators of these calls test the length of the payload only. -/
theorem plainCallsSendTheirFrame : Obligations.PlainCallsSendTheirFrame := by
  intro addr s hb hq
  have sends := exec_toInstr_of_idle hb hq
  refine ⟨?_, ?_, ?_, fun uid huid => ?_, fun id hid => ?_⟩
  · exact sends (.readUid addr) rfl
  · exact sends (.readId addr) rfl
  · exact sends (.readContactlessUid addr) rfl
  · exact sends (.writeUid addr uid) (fitPayload_of_le huid)
  · exact sends (.writeChipId addr id) (writeChipIdPayload_ok hid)

/-- Settles O47: the payload validators accept passwords of six bytes, and what they accept is sent. -/
theorem passwordCallsSendTheirFrame : Obligations.PasswordCallsSendTheirFrame := by
  intro addr sector block group pw pw' s hb hq hpw hpw'
  have sends := exec_toInstr_of_idle hb hq
  refine ⟨?_, fun data hdata => ?_, ?_, fun hgroup => ?_⟩
  · exact sends (.readSector addr sector block group pw) (readSectorPayload_ok sector block group hpw)
  · exact sends (.writeSector addr sector block group pw data)
      (writeSectorPayload_ok sector block group hpw hdata)
  · exact sends (.changePassword addr sector group pw pw') (changePasswordPayload_ok sector group hpw hpw')
  · exact sends (.readAllBlocks addr group pw) (readAllBlocksPayload_ok (mem_readAllGroups.2 hgroup) hpw)

/-- Settles O49: O50 names the first violated precondition of any call, and here there is only one. -/
theorem badArgumentsNeverReachTheWire : Obligations.BadArgumentsNeverReachTheWire := by
  intro addr sector block group pw pw' data s hpw hpw'
  obtain ⟨-, -, -, hfirst, -, -⟩ := oversizedPayloadsAreRejected addr sector block group pw pw' data s
  obtain ⟨hreadSector, hwriteSector, hold, hreadAll⟩ := hfirst hpw
  obtain ⟨-, -, -, -, hnew, hgroup⟩ := oversizedPayloadsAreRejected addr sector block group pw' pw data s
  exact ⟨fun _ => hreadSector, fun _ => hwriteSector, fun _ => ⟨hold, hnew hpw' hpw⟩,
    fun hmem _ => hreadAll hmem, hgroup⟩

/-- Settles O51: the payload validator of Write Tag Sector accepts nothing. -/
theorem writeTagSectorIsNotImplemented : Obligations.WriteTagSectorIsNotImplemented :=
  fun addr _ s => catalogCall_of_error (args := writeTagSectorPayload) rfl addr 0x21 s

end

section
/-! PROOFS. The step with nothing presented (O2). -/

open Sys2Proof Sys2Proof.Machine

/-- Settles O2: with an empty issue there is no item to fetch, and a step that fetches none holds the state
(`step_idle`, R208). -/
theorem idleStepHoldsState : Obligations.IdleStepHoldsState := fun _ hissue => step_idle hissue

end
